-- ==== Sys2Proof/Word.lean ====
section
/-! DEFINITION. The word types of the signal timing engine (spec 00_scope.md R5, R7): every register
holds an unsigned value of a stated width, and the widths that recur are the byte (CNT_W, SEQ_W, an
NVM byte, an operand byte) and the 16-bit Timestamp or Width (TS_W). Arithmetic on them is the
arithmetic of `BitVec`, which wraps; the rules that compute exactly do so in `Nat` or `Int`. -/

namespace Sys2Proof

/-- An 8-bit value: a hardware counter, an NVM byte, a byte of an operation word (R5, R30, R51). -/
abbrev Byte := BitVec 8

/-- A 16-bit value: a Timestamp, a Width, a record field, an immediate (R5: `TS_W`). -/
abbrev Word := BitVec 16

end Sys2Proof
end

