-- ==== Sys2Proof/Syntax.lean ====
section
/-! DEFINITION. The 25 operations of the opcode map (spec 30_encoding.md R55), one constructor per row
of spec/opcode_table.json, with their operands as R54 gives them; the two channels; and the grounds on
which an operation word is illegal (R56). -/

namespace Sys2Proof

/-- A channel, `c ∈ 0, 1` (R7; `N_CH = 2`, R5). Channel 0 is the primary, channel 1 the secondary
(R91). As an operand it is the one bit `a[0]` (R54). -/
inductive Ch where
  | ch0
  | ch1
deriving DecidableEq, Repr

/-- The operations of R55. -/
inductive Instr where
  /-- `RESET`, agent ENV (R109). -/
  | reset
  /-- `TICK_IN`, agent HW (R62). -/
  | tickIn
  /-- `TICK_OUT`, agent HW (R96). -/
  | tickOut
  /-- `OVF0_SVC`, agent IRQ (R63). -/
  | ovf0Svc
  /-- `CAPTURE`, agent IRQ (R77). -/
  | capture
  /-- `OVF1_SVC`, agent IRQ (R100). -/
  | ovf1Svc
  /-- `CMP1_SVC`, agent IRQ (R101). -/
  | cmp1Svc
  /-- `NOW`, agent MAIN (R64). -/
  | now
  /-- `IRQ_MASK`, agent MAIN (R111). -/
  | irqMask
  /-- `IRQ_UNMASK`, agent MAIN (R112). -/
  | irqUnmask
  /-- `MIX`, agent MAIN (R92). -/
  | mix
  /-- `OUT_START`, agent MAIN (R104). -/
  | outStart
  /-- `OUT_POLL`, agent MAIN (R105). -/
  | outPoll
  /-- `PIN lv`, agent ENV (R76): bit `c` of `lv` is the new level of channel `c`. -/
  | pin (lv : BitVec 2)
  /-- `BOOT j`, agent MAIN (R110): `j` true is the jumper installed. -/
  | boot (j : Bool)
  /-- `OUT_CFG e`, agent MAIN (R103). -/
  | outCfg (e : Bool)
  /-- `PUB_STEP ch`, agent IRQ (R70). -/
  | pubStep (ch : Ch)
  /-- `TAKE_STEP ch`, agent MAIN (R71). -/
  | takeStep (ch : Ch)
  /-- `TRY_TAKE ch`, agent MAIN (R72). -/
  | tryTake (ch : Ch)
  /-- `CAL_STEP ch`, agent MAIN (R82). -/
  | calStep (ch : Ch)
  /-- `NVM_SET i, b`, agent ENV (R113): legal for `i` up to 12 (R56). -/
  | nvmSet (i b : Byte)
  /-- `PUBLISH ch, v`, agent IRQ (R69). -/
  | publish (ch : Ch) (v : Word)
  /-- `CAL_SAMPLE ch, w`, agent MAIN (R83). -/
  | calSample (ch : Ch) (w : Word)
  /-- `SET_WIDTHS w0, w1`, agent MAIN (R102). -/
  | setWidths (w0 w1 : Word)
  /-- `XFORM p, q`, agent MAIN (R93): the primary width `p` and the secondary width `q` (the spec's
  `s`). -/
  | xform (p q : Word)
deriving DecidableEq, Repr

/-- Why a byte stream spells no operation at its first byte (R56, R58). -/
inductive Illegal where
  /-- `opcode[7:5] > 4`: opcodes 0xA0 to 0xFF, of undefined length (R52, R56 a). -/
  | undefinedLength (op : Byte)
  /-- The stream ends before the word's last byte (R56 d). -/
  | truncated (op : Byte)
  /-- The opcode is not in the table of R55 (R56 a). -/
  | unassigned (op : Byte)
  /-- A reserved operand bit is 1 (R54, R56 b). -/
  | reservedBit (op a : Byte)
  /-- `NVM_SET` with an offset above 12 (R56 c). -/
  | offsetRange (i : Byte)
deriving DecidableEq, Repr

end Sys2Proof
end

