-- ==== Sys2Proof/Machine/Operands.lean ====
section
/-! DEFINITION. Bytes of 16-bit values and the operand forms of an operation word (spec 30_encoding.md
R53, R54; byte order 20_memory.md R40): each form reads its field and refuses a reserved bit, and beside
it stands the byte that spells the operand. -/

namespace Sys2Proof.Machine

/-- `v[7:0]` (R7). -/
def lowByte (v : Word) : Byte := v.extractLsb' 0 8

/-- `v[15:8]` (R7). -/
def highByte (v : Word) : Byte := v.extractLsb' 8 8

/-- `{hi, lo}` (R7): little-endian, so `lo` is the byte that comes first (R40, R53). -/
def joinBytes (lo hi : Byte) : Word := hi ++ lo

/-- `v` with `v[7:0]` written: the byte write of publish step P2 and take step T2 (R70, R71). -/
def setLowByte (v : Word) (b : Byte) : Word := joinBytes b (highByte v)

/-- `v` with `v[15:8]` written: the byte write of publish step P3 and take step T3 (R70, R71). -/
def setHighByte (v : Word) (b : Byte) : Word := joinBytes (lowByte v) b

/-- No bit of `a` from bit `k` up is set: the reserved bits of an operand are zero (R54). -/
def reservedClear (k : Nat) (a : Byte) : Bool := a >>> k == 0#8

/-- The boolean operand `a[0]`, `a[7:1]` reserved (R54). -/
def boolOperand (a : Byte) : Option Bool :=
  if reservedClear 1 a then some (a.getLsbD 0) else none

/-- The channel operand `a[0]`, `a[7:1]` reserved (R54). -/
def chOperand (a : Byte) : Option Ch :=
  if reservedClear 1 a then some (if a.getLsbD 0 then .ch1 else .ch0) else none

/-- The level pair `a[1:0]`, `a[7:2]` reserved (R54). -/
def levelsOperand (a : Byte) : Option (BitVec 2) :=
  if reservedClear 2 a then some (a.setWidth 2) else none

/-- The byte of a boolean operand. -/
def boolByte (e : Bool) : Byte := if e then 1#8 else 0#8

/-- The byte of a channel operand. -/
def chByte : Ch → Byte
  | .ch0 => 0#8
  | .ch1 => 1#8

/-- The byte of a level pair. -/
def levelsByte (lv : BitVec 2) : Byte := lv.setWidth 8

end Sys2Proof.Machine
end

