-- ==== Sys2Proof/WellFormed.lean ====
section
/-! DEFINITION. Which terms of `Instr` are legal operations. The types of the operands already keep a
channel, a boolean and a level pair in range (R54); the one check left is the offset of `NVM_SET`
(R56 c). -/

namespace Sys2Proof

/-- An offset the non-volatile record has: 0 to 12 (R37). -/
def offsetInRange (i : Byte) : Bool := decide (i.toNat ≤ 12)

/-- The instruction is one that some legal operation word spells (R56). -/
def wellFormed : Instr → Bool
  | .reset => true
  | .tickIn => true
  | .tickOut => true
  | .ovf0Svc => true
  | .capture => true
  | .ovf1Svc => true
  | .cmp1Svc => true
  | .now => true
  | .irqMask => true
  | .irqUnmask => true
  | .mix => true
  | .outStart => true
  | .outPoll => true
  | .pin _ => true
  | .boot _ => true
  | .outCfg _ => true
  | .pubStep _ => true
  | .takeStep _ => true
  | .tryTake _ => true
  | .calStep _ => true
  | .nvmSet i _ => offsetInRange i
  | .publish _ _ => true
  | .calSample _ _ => true
  | .setWidths _ _ => true
  | .xform _ _ => true

end Sys2Proof
end

