-- ==== Sys2Proof/Decode.lean ====
section
/-! DEFINITION. Decoding and encoding operation words (spec 30_encoding.md R51 to R58). `decodeOne` reads
the operation at the front of a byte stream, total on any bytes and refusing by name; `decodeStream` is
R58's loop over a whole stream; `encode` writes the bytes of an operation from the same table. -/

namespace Sys2Proof

open Sys2Proof.Machine

/-- What stands at the front of a byte stream (R58). -/
inductive Decoded where
  /-- No byte remains: the stream is finished (R58 step 1). -/
  | finished
  /-- The bytes spell no operation (R56). -/
  | illegal (why : Illegal)
  /-- The operation, and the stream after its word (R58 step 7). -/
  | op (i : Instr) (rest : List Byte)
deriving DecidableEq, Repr

/-- `opcode[7:5]`: the number of operand bytes, one less than the word's length (R52). -/
def operandBytes (op : Byte) : Nat := (op >>> 5).toNat

/-- An operand form gave a value, or a reserved bit of `a` was set (R54, R56 b). -/
def withOperand {α : Type} (op a : Byte) (field : Option α) (make : α → Instr) :
    Except Illegal Instr :=
  match field with
  | some x => .ok (make x)
  | none => .error (.reservedBit op a)

/-- Format Z of R55: the opcode alone. -/
def decodeZ (op : Byte) : Except Illegal Instr :=
  match op.toNat with
  | 0x01 => .ok .reset
  | 0x02 => .ok .tickIn
  | 0x03 => .ok .tickOut
  | 0x04 => .ok .ovf0Svc
  | 0x05 => .ok .capture
  | 0x06 => .ok .ovf1Svc
  | 0x07 => .ok .cmp1Svc
  | 0x08 => .ok .now
  | 0x09 => .ok .irqMask
  | 0x0A => .ok .irqUnmask
  | 0x0B => .ok .mix
  | 0x0C => .ok .outStart
  | 0x0D => .ok .outPoll
  | _ => .error (.unassigned op)

/-- Format B of R55: one operand byte. -/
def decodeB (op a : Byte) : Except Illegal Instr :=
  match op.toNat with
  | 0x20 => withOperand op a (levelsOperand a) .pin
  | 0x21 => withOperand op a (boolOperand a) .boot
  | 0x22 => withOperand op a (boolOperand a) .outCfg
  | 0x23 => withOperand op a (chOperand a) .pubStep
  | 0x24 => withOperand op a (chOperand a) .takeStep
  | 0x25 => withOperand op a (chOperand a) .tryTake
  | 0x26 => withOperand op a (chOperand a) .calStep
  | _ => .error (.unassigned op)

/-- Format BB of R55: two operand bytes. -/
def decodeBB (op a b : Byte) : Except Illegal Instr :=
  match op.toNat with
  | 0x40 => if offsetInRange a then .ok (.nvmSet a b) else .error (.offsetRange a)
  | _ => .error (.unassigned op)

/-- Format BH of R55: an operand byte and a 16-bit immediate. -/
def decodeBH (op a : Byte) (imm : Word) : Except Illegal Instr :=
  match op.toNat with
  | 0x60 => withOperand op a (chOperand a) (fun ch => .publish ch imm)
  | 0x61 => withOperand op a (chOperand a) (fun ch => .calSample ch imm)
  | _ => .error (.unassigned op)

/-- Format HH of R55: two 16-bit immediates. -/
def decodeHH (op : Byte) (x y : Word) : Except Illegal Instr :=
  match op.toNat with
  | 0x80 => .ok (.setWidths x y)
  | 0x81 => .ok (.xform x y)
  | _ => .error (.unassigned op)

/-- The outcome of reading a whole word, with the stream after it. -/
def decodedOf (r : Except Illegal Instr) (rest : List Byte) : Decoded :=
  match r with
  | .ok i => .op i rest
  | .error e => .illegal e

/-- R58, steps 1 to 7, at the front of a stream. -/
def decodeOne : List Byte → Decoded
  | [] => .finished
  | op :: tl =>
    match operandBytes op, tl with
    | 0, rest => decodedOf (decodeZ op) rest
    | 1, a :: rest => decodedOf (decodeB op a) rest
    | 2, a :: b :: rest => decodedOf (decodeBB op a b) rest
    | 3, a :: l :: h :: rest => decodedOf (decodeBH op a (joinBytes l h)) rest
    | 4, xl :: xh :: yl :: yh :: rest =>
      decodedOf (decodeHH op (joinBytes xl xh) (joinBytes yl yh)) rest
    | 1, _ => .illegal (.truncated op)
    | 2, _ => .illegal (.truncated op)
    | 3, _ => .illegal (.truncated op)
    | 4, _ => .illegal (.truncated op)
    | _, _ => .illegal (.undefinedLength op)

/-- The verdict on a whole stream (R58): its list of operations, or the operations before the first
invalid position, that position and the ground. -/
inductive Verdict where
  | ops (l : List Instr)
  | invalid (before : List Instr) (position : Nat) (why : Illegal)
deriving DecidableEq, Repr

/-- R58's loop, emitting operations; `fuel` bounds the number of words, `k` is the position of `bs` in
the stream and `acc` the operations emitted so far, last first. -/
def decodeLoop : Nat → Nat → List Instr → List Byte → Verdict
  | 0, _, acc, _ => .ops acc.reverse
  | fuel + 1, k, acc, bs =>
    match decodeOne bs with
    | .finished => .ops acc.reverse
    | .illegal e => .invalid acc.reverse k e
    | .op i rest => decodeLoop fuel (k + (bs.length - rest.length)) (i :: acc) rest

/-- A byte stream as a list of operations, or invalid at a unique first position (R58). A word has at
least one byte, so as many turns as bytes, and one to see the end, are enough. -/
def decodeStream (bs : List Byte) : Verdict := decodeLoop (bs.length + 1) 0 [] bs

/-- The opcode byte of an operation (R55). -/
def opcode : Instr → Byte
  | .reset => 0x01#8
  | .tickIn => 0x02#8
  | .tickOut => 0x03#8
  | .ovf0Svc => 0x04#8
  | .capture => 0x05#8
  | .ovf1Svc => 0x06#8
  | .cmp1Svc => 0x07#8
  | .now => 0x08#8
  | .irqMask => 0x09#8
  | .irqUnmask => 0x0A#8
  | .mix => 0x0B#8
  | .outStart => 0x0C#8
  | .outPoll => 0x0D#8
  | .pin _ => 0x20#8
  | .boot _ => 0x21#8
  | .outCfg _ => 0x22#8
  | .pubStep _ => 0x23#8
  | .takeStep _ => 0x24#8
  | .tryTake _ => 0x25#8
  | .calStep _ => 0x26#8
  | .nvmSet _ _ => 0x40#8
  | .publish _ _ => 0x60#8
  | .calSample _ _ => 0x61#8
  | .setWidths _ _ => 0x80#8
  | .xform _ _ => 0x81#8

/-- The two bytes of an immediate, low byte first (R53). -/
def immBytes (v : Word) : List Byte := [lowByte v, highByte v]

/-- The operand bytes of an operation (R53, R54). -/
def operands : Instr → List Byte
  | .reset => []
  | .tickIn => []
  | .tickOut => []
  | .ovf0Svc => []
  | .capture => []
  | .ovf1Svc => []
  | .cmp1Svc => []
  | .now => []
  | .irqMask => []
  | .irqUnmask => []
  | .mix => []
  | .outStart => []
  | .outPoll => []
  | .pin lv => [levelsByte lv]
  | .boot j => [boolByte j]
  | .outCfg e => [boolByte e]
  | .pubStep ch => [chByte ch]
  | .takeStep ch => [chByte ch]
  | .tryTake ch => [chByte ch]
  | .calStep ch => [chByte ch]
  | .nvmSet i b => [i, b]
  | .publish ch v => chByte ch :: immBytes v
  | .calSample ch w => chByte ch :: immBytes w
  | .setWidths w0 w1 => immBytes w0 ++ immBytes w1
  | .xform p q => immBytes p ++ immBytes q

/-- The operation word as bytes, byte 0 first (R51). -/
def encode (i : Instr) : List Byte := opcode i :: operands i

/-- Byte `j` of the number `w`, in the numbering of R51: byte 0 is `word[7:0]`. -/
def byteOf (w j : Nat) : Byte := BitVec.ofNat 8 (w / 256 ^ j)

/-- The longest word's five bytes (R52), holding the low `nbits` bits of `w` and zeros above. -/
def wordBytes (nbits w : Nat) : List Byte :=
  let v := w % 2 ^ nbits
  [byteOf v 0, byteOf v 1, byteOf v 2, byteOf v 3, byteOf v 4]

/-- The instruction the decoder reads from a word of spec/opcode_table.json. -/
def decodeTableWord (nbits w : Nat) : Option Instr :=
  match decodeOne (wordBytes nbits w) with
  | .op i _ => some i
  | .finished => none
  | .illegal _ => none

end Sys2Proof
end

