-- ==== Sys2Proof/Config.lean ====
section
/-! DEFINITION. The implementation parameters of spec 00_scope.md R5. Those whose value the spec fixes
are definitions; those it leaves OPEN are the fields of ONE record, `Params`, whose types admit exactly
the values of the `constraint` column, so that every `Params` is legal (R6). The model takes the record
as an argument, as R5 asks: it stands in State, where no step changes it (notes/assumptions/3.md). -/

namespace Sys2Proof.Config

/-- `OUT_PERIOD` (R5, decision D23): the output period in output-timer ticks. -/
def outPeriod : Nat := 20000

/-- `STRICT_CTX` (R5, decision D31): main-context operations are inadmissible while a publish is in
flight (R127). It decides which traces are behaviours of the hardware, never what an operation does. -/
def strictCtx : Bool := true

/-- `F_TICK_IN` (R5): the input timer's tick rate, OPEN and used by no rule (R146). -/
opaque fTickIn : Nat

/-- `F_TICK_OUT` (R5): the output timer's tick rate, OPEN and used by no rule (R146). -/
opaque fTickOut : Nat

/-- The parameters that R5 leaves OPEN and some rule uses. -/
structure Params where
  /-- `OUT_MARGIN − 1`: the constraint is 1 ≤ M ≤ 128. -/
  outMarginLess1 : BitVec 7
  /-- `CAL_THRESH`, 0 to 65534. -/
  calThresh : Fin 65535
  /-- `CAL_WAIT − 1`: the constraint is 1 ≤ CAL_WAIT ≤ 65535. -/
  calWaitLess1 : Fin 65535
  /-- `CHK_SEED`, 0 to 255. -/
  chkSeed : Byte
deriving DecidableEq, Repr

/-- `OUT_MARGIN`, the minimum safe margin M of the output compare, 1 to 128 (R5). -/
def Params.outMargin (p : Params) : Nat := p.outMarginLess1.toNat + 1

/-- `CAL_WAIT`, samples discarded by each wait sub-state, 1 to 65535 (R5). -/
def Params.calWait (p : Params) : Nat := p.calWaitLess1.val + 1

/-- The test parameter set TP1 (R12): `OUT_MARGIN = 16`, `CAL_THRESH = 3`, `CAL_WAIT = 2`,
`CHK_SEED = 0x55`. -/
def tp1 : Params :=
  { outMarginLess1 := 15#7, calThresh := 3, calWaitLess1 := 1, chkSeed := 0x55#8 }

end Sys2Proof.Config
end

