-- ==== Sys2Proof/Machine/State.lean ====
section
/-! DEFINITION. The state of the signal timing engine (spec 10_state.md): the 50 registers S0 to S49 of
R14 to R29, one field each under the spec's own name, the non-volatile record NVM of R30, and two fields
of the MODEL's own, `params` (notes/assumptions/3.md) and `stream` (notes/assumptions/1.md). Beside it:
why a step can stop, and the state after reset (R35). -/

namespace Sys2Proof.Machine

/-- A per-channel register `X[2]` (R13): `c0` is `X[0]`, `c1` is `X[1]`. -/
structure Chan (α : Type) where
  c0 : α
  c1 : α
deriving DecidableEq, Repr

/-- Publish phase `PUBP` (R18): 0 is no publish in flight, 1 to 5 the next step P1 to P5. The codes 6
and 7 are never produced. -/
inductive PubPhase where
  | idle
  | p1
  | p2
  | p3
  | p4
  | p5
deriving DecidableEq, Repr

/-- Take phase `TKP` (R19): 0 is no take in progress (the next step is T1), 1 to 5 the next step T2 to
T6. The codes 6 and 7 are never produced. -/
inductive TakePhase where
  | idle
  | t2
  | t3
  | t4
  | t5
  | t6
deriving DecidableEq, Repr

/-- `CAL_STATE` (R21, R81), in the order of its codes 0 to 7. -/
inductive CalState where
  | c0High
  | waitA
  | c0Low
  | waitB
  | c1High
  | waitC
  | c1Low
  | done
deriving DecidableEq, Repr

/-- `MODE` (R24): 0 is Running, 1 is Calibrating. -/
inductive Mode where
  | running
  | calibrating
deriving DecidableEq, Repr

/-- `ENG_ST` (R24): codes 0, 1, 2. The code 3 is never produced. -/
inductive EngSt where
  | preboot
  | active
  | halted
deriving DecidableEq, Repr

/-- `STAGE` (R27): codes 0, 1, 2. The code 3 is never produced. -/
inductive Stage where
  | stage0
  | stage1
  | stage2
deriving DecidableEq, Repr

/-- The non-volatile record (R30, R37) as a list of (offset, byte) pairs in one canonical form: offsets
strictly rising and below 13, no entry equal to what an unlisted offset reads as. -/
abbrev Memory := List Host.Cell

/-- The state of the block. A one-bit register is a `Bool`, `true` for 1. -/
structure State where
  /-- S0 `CNT0` (R14): the input counter. -/
  cnt0 : Byte
  /-- S1 `TOV0` (R14): input-counter overflow pending. -/
  tov0 : Bool
  /-- S2 `TICKS` (R14): the overflow-tick counter. -/
  ticks : Byte
  /-- S3 `PINS` (R15): bit `c` is the level of input pin `c`. -/
  pins : BitVec 2
  /-- S4 `PCF` (R15): pin change pending. -/
  pcf : Bool
  /-- S5 `PREV[2]` (R16): level memory. -/
  prev : Chan Bool
  /-- S6 `OPEN[2]` (R16): pulse open. -/
  pulseOpen : Chan Bool
  /-- S7 `REF[2]` (R16): timestamp of the most recent rising edge. -/
  ref : Chan Word
  /-- S8 `MB_VAL[2]` (R17): the value slot. -/
  mbVal : Chan Word
  /-- S9 `MB_SEQ[2]` (R17): the sequence counter. -/
  mbSeq : Chan Byte
  /-- S10 `MB_NE[2]` (R17): not empty. -/
  mbNe : Chan Bool
  /-- S11 `PUBV[2]` (R18): the value being published. -/
  pubv : Chan Word
  /-- S12 `PUBP[2]` (R18): publish phase. -/
  pubp : Chan PubPhase
  /-- S13 `TKP[2]` (R19): take phase. -/
  tkp : Chan TakePhase
  /-- S14 `TKS1[2]` (R19): sequence as read by T1. -/
  tks1 : Chan Byte
  /-- S15 `TKV[2]` (R19): value as read by T2 and T3. -/
  tkv : Chan Word
  /-- S16 `TKNE[2]` (R19): not-empty flag as read by T4. -/
  tkne : Chan Bool
  /-- S17 `TKOK[2]` (R19): the last finished take returned a value. -/
  tkok : Chan Bool
  /-- S18 `CHV[2]` (R20): the last width taken or injected. -/
  chv : Chan Word
  /-- S19 `FRESH[2]` (R20): `CHV[c]` is not yet consumed. -/
  fresh : Chan Bool
  /-- S20 `TS_RES` (R20): result of the last NOW. -/
  tsRes : Word
  /-- S21 `POLL_RES` (R20): result of the last OUT_POLL. -/
  pollRes : Bool
  /-- S22 `CAL_STATE` (R21). -/
  calState : CalState
  /-- S23 `CAL_CNT` (R21): stability counter, or samples discarded. -/
  calCnt : Word
  /-- S24 `CMIN[2]` (R22): recorded minimum. -/
  cmin : Chan Word
  /-- S25 `CMAX[2]` (R22): recorded maximum. -/
  cmax : Chan Word
  /-- S26 `CMID[2]` (R22): mid-point. -/
  cmid : Chan Word
  /-- S27 `THR` (R22): low-throttle threshold. -/
  thr : Word
  /-- S28 `REC_VALID` (R22). -/
  recValid : Bool
  /-- S29 `IND` (R23): the indicator line. -/
  ind : Bool
  /-- S30 `MODE` (R24). -/
  mode : Mode
  /-- S31 `ENG_ST` (R24). -/
  engSt : EngSt
  /-- S32 `FLT` (R25): sticky fault bits. -/
  flt : BitVec 3
  /-- S33 `TCNT1` (R26): the output counter. -/
  tcnt1 : Byte
  /-- S34 `OCR1` (R26): the compare register. -/
  ocr1 : Byte
  /-- S35 `TOV1` (R26): output-counter overflow pending. -/
  tov1 : Bool
  /-- S36 `OCF1` (R26): compare match pending. -/
  ocf1 : Bool
  /-- S37 `HI1` (R26): the software high byte. -/
  hi1 : Byte
  /-- S38 `STAGE` (R27). -/
  stage : Stage
  /-- S39 `RUN` (R27): the generator has been started. -/
  run : Bool
  /-- S40 `W[2]` (R27): widths of the current period. -/
  w : Chan Word
  /-- S41 `NW[2]` (R27): widths requested for the next period. -/
  nw : Chan Word
  /-- S42 `CH1_EN` (R27): output channel 1 is driven. -/
  ch1En : Bool
  /-- S43 `OUT_DONE` (R27): a period has completed. -/
  outDone : Bool
  /-- S44 `OUT[2]` (R28): the output pins. -/
  out : Chan Bool
  /-- S45 `IE` (R29): global interrupt enable. -/
  ie : Bool
  /-- S46 `PCIE` (R29): pin-change interrupt enable. -/
  pcie : Bool
  /-- S47 `TOIE0` (R29): input-overflow interrupt enable. -/
  toie0 : Bool
  /-- S48 `TOIE1` (R29): output-overflow interrupt enable. -/
  toie1 : Bool
  /-- S49 `OCIE1` (R29): output compare interrupt enable. -/
  ocie1 : Bool
  /-- `NVM[0..12]` (R30): the non-volatile record. -/
  nvm : Memory
  /-- The MODEL's own: the open parameters of R5, which no step changes. -/
  params : Config.Params
  /-- The MODEL's own: the bytes of the trace not yet performed (R51), as its agents supply them. -/
  stream : List Byte
deriving DecidableEq, Repr

/-- Why a step stops with a fault. A `fault <Name>` of the spec is NOT one of these: it sets a bit of
`FLT` and the operation goes on (R116). -/
inductive Fault where
  /-- Raised by `execNvmSet` for an offset that the 13-byte record does not have (R37). No decoded word
  spells it (R56 c), so no step raises it. Safe: the machine stops where the spec gives no byte. -/
  | nvmOffsetAbsent (offset : Byte)
deriving DecidableEq, Repr

/-- Why a step is refused. -/
inductive Refusal where
  /-- Raised by an arm of `exec` for an instruction that has no meaning yet; no arm is left so. Safe. -/
  | notModelled (mnemonic : String)
  /-- Raised by `step`: the bytes at the front of the stream spell no operation, so the stream is not a
  trace of the block and the model refuses it (R56, R120). Safe. -/
  | illegalWord (why : Illegal)
  /-- Raised by `step`: no byte of the stream remains (R58 step 1), the agents have supplied no further
  operation. Safe: the block itself never ends (R147). -/
  | streamFinished
deriving DecidableEq, Repr

/-- The three outcomes of a step. -/
abbrev Result := Host.Outcome State Fault Refusal

/-- A per-channel register with the same value on both channels. -/
def Chan.both {α : Type} (x : α) : Chan α := { c0 := x, c1 := x }

/-- The machine right after reset (R35, R132): every register 0 except `CH1_EN`, which is 1. NVM, which
RESET does not write, lists nothing (notes/assumptions/4.md); the parameters are those of TP1
(notes/assumptions/3.md); no operation has been supplied (notes/assumptions/1.md). -/
def State.reset : State :=
  { cnt0 := 0#8, tov0 := false, ticks := 0#8
    pins := 0#2, pcf := false
    prev := .both false, pulseOpen := .both false, ref := .both 0#16
    mbVal := .both 0#16, mbSeq := .both 0#8, mbNe := .both false
    pubv := .both 0#16, pubp := .both .idle
    tkp := .both .idle, tks1 := .both 0#8, tkv := .both 0#16, tkne := .both false
    tkok := .both false
    chv := .both 0#16, fresh := .both false, tsRes := 0#16, pollRes := false
    calState := .c0High, calCnt := 0#16
    cmin := .both 0#16, cmax := .both 0#16, cmid := .both 0#16, thr := 0#16, recValid := false
    ind := false
    mode := .running, engSt := .preboot
    flt := 0#3
    tcnt1 := 0#8, ocr1 := 0#8, tov1 := false, ocf1 := false, hi1 := 0#8
    stage := .stage0, run := false, w := .both 0#16, nw := .both 0#16, ch1En := true
    outDone := false
    out := .both false
    ie := false, pcie := false, toie0 := false, toie1 := false, ocie1 := false
    nvm := []
    params := Config.tp1
    stream := [] }

end Sys2Proof.Machine
end

