-- ==== Sys2Proof/Machine/Flags.lean ====
section
/-! DEFINITION. The one-bit flags and the interrupt predicates (spec 10_state.md R25, R32, R33;
60_exceptions.md R116, R121, R122): when each hardware flag is set, the bits of `FLT`, and which
interrupt source is pending, enabled and eligible. No operation has arithmetic condition codes (R32). -/

namespace Sys2Proof.Machine

/-- An 8-bit counter has just wrapped 255 → 0 (R62, R96): what sets `TOV0` and `TOV1`. -/
def counterWrapped (count : Byte) : Bool := count == 0#8

/-- A tick has made the output counter equal to the compare register (R96): what sets `OCF1`. -/
def compareMatched (count ocr : Byte) : Bool := count == ocr

/-- The environment changed the level of at least one pin (R76): what sets `PCF`. -/
def pinsChanged (old new : BitVec 2) : Bool := old != new

/-- The level of channel `c` in a level pair (R15, R76). -/
def level (lv : BitVec 2) : Ch → Bool
  | .ch0 => lv.getLsbD 0
  | .ch1 => lv.getLsbD 1

/-- The three faults of R116. -/
inductive FaultName where
  /-- `ChecksumMismatch`, bit 0 (R117). -/
  | checksumMismatch
  /-- `OutputHazard`, bit 1 (R118). -/
  | outputHazard
  /-- `WidthRange`, bit 2 (R119). -/
  | widthRange
deriving DecidableEq, Repr

/-- The code of a fault in `FLT` (R116). -/
def faultBit : FaultName → BitVec 3
  | .checksumMismatch => 0b001#3
  | .outputHazard => 0b010#3
  | .widthRange => 0b100#3

/-- A fault's sticky bit in `FLT` is set (R25). -/
def hasFault (flt : BitVec 3) : FaultName → Bool
  | .checksumMismatch => flt.getLsbD 0
  | .outputHazard => flt.getLsbD 1
  | .widthRange => flt.getLsbD 2

/-- The four interrupt sources of R121. -/
inductive Source where
  | inputOverflow
  | pinChange
  | outputOverflow
  | outputCompare
deriving DecidableEq, Repr

/-- `Pending(src)` (R121): the source's flag is 1. -/
def pending (s : State) : Source → Bool
  | .inputOverflow => s.tov0
  | .pinChange => s.pcf
  | .outputOverflow => s.tov1
  | .outputCompare => s.ocf1

/-- `Enable(src)` (R121): the source's enable bit is 1. -/
def enabled (s : State) : Source → Bool
  | .inputOverflow => s.toie0
  | .pinChange => s.pcie
  | .outputOverflow => s.toie1
  | .outputCompare => s.ocie1

/-- The source's pending flag cleared, which is how every handler begins (R124). -/
def clearPending (s : State) : Source → State
  | .inputOverflow => { s with tov0 := false }
  | .pinChange => { s with pcf := false }
  | .outputOverflow => { s with tov1 := false }
  | .outputCompare => { s with ocf1 := false }

/-- `INT_ACTIVE` (R33): a publish is in flight, so the block is in interrupt context. -/
def intActive (s : State) : Bool := s.pubp.c0 != .idle || s.pubp.c1 != .idle

/-- `Eligible(src)` (R122). -/
def eligible (s : State) (src : Source) : Bool :=
  s.ie && enabled s src && pending s src && !intActive s

/-- `ENG_ST = ACTIVE and MODE = 0`: the enabling condition of the Running-mode operations (R92, R93,
R102, R104). -/
def isRunning (s : State) : Bool := s.engSt == .active && s.mode == .running

/-- `ENG_ST = ACTIVE and MODE = 1`: the enabling condition of the calibration operations (R82, R83). -/
def isCalibrating (s : State) : Bool := s.engSt == .active && s.mode == .calibrating

end Sys2Proof.Machine
end

