-- ==== Sys2Proof/Machine/Ops.lean ====
section
/-! DEFINITION. The named operations that the instructions share: per-channel access, the non-volatile
record (spec 20_memory.md R37 to R44), the timestamp (40_timestamper.md R61), setting a fault bit and
taking an interrupt (60_exceptions.md R116, R124), the record arithmetic (43_calibration.md R87) and the
width request (45_output_generator.md R102). -/

namespace Sys2Proof.Machine

/-- `X[c]` (R7). -/
def Chan.get {α : Type} (x : Chan α) : Ch → α
  | .ch0 => x.c0
  | .ch1 => x.c1

/-- `X[c] <- v` (R8). -/
def Chan.set {α : Type} (x : Chan α) (c : Ch) (v : α) : Chan α :=
  match c with
  | .ch0 => { x with c0 := v }
  | .ch1 => { x with c1 := v }

/-! ### The non-volatile record -/

/-- What an offset the memory does not list reads as. The spec leaves the store's first contents open
(R30, U6): this byte is the model's DESIGN CHOICE (notes/assumptions/4.md). -/
def unlistedByte : Byte := 0x00#8

/-- The byte listed at offset `a`, or the unlisted byte. -/
def cellRead : Memory → Nat → Byte
  | [], _ => unlistedByte
  | (k, v) :: rest, a => if k = a then v else cellRead rest a

/-- Put a byte at offset `a`, in the canonical form: in order of offset, and listed only where it
differs from the unlisted byte. -/
def cellWrite : Memory → Nat → Byte → Memory
  | [], a, b => if b = unlistedByte then [] else [(a, b)]
  | (k, v) :: rest, a, b =>
    if a < k then
      if b = unlistedByte then (k, v) :: rest else (a, b) :: (k, v) :: rest
    else if a = k then
      if b = unlistedByte then rest else (a, b) :: rest
    else (k, v) :: cellWrite rest a b

/-- Offsets rise strictly from `lo` on, stay below 13, and no entry equals the unlisted byte. -/
def wfFrom : Nat → Memory → Bool
  | _, [] => true
  | lo, (k, v) :: rest => decide (lo ≤ k) && decide (k < 13) && (v != unlistedByte) && wfFrom (k + 1) rest

/-- The canonical form of the non-volatile record (R37: offsets 0 to 12). -/
def Memory.wf (m : Memory) : Bool := wfFrom 0 m

/-- `NvmRead(i)` (R44). -/
def nvmRead (m : Memory) (i : Fin 13) : Byte := cellRead m i.val

/-- `NvmWrite(i, b)` (R44). -/
def nvmWrite (m : Memory) (i : Fin 13) (b : Byte) : Memory := cellWrite m i.val b

/-- `{ NvmRead(i + 1), NvmRead(i) }`: a 16-bit field of the record, low byte at the lower offset (R38,
R40). -/
def nvmReadWord (m : Memory) (lo hi : Fin 13) : Word := joinBytes (nvmRead m lo) (nvmRead m hi)

/-- A 16-bit field written, low byte at the lower offset and first (R38, R87). -/
def nvmWriteWord (m : Memory) (lo hi : Fin 13) (v : Word) : Memory :=
  nvmWrite (nvmWrite m lo (lowByte v)) hi (highByte v)

/-- `NVM[0] + ... + NVM[n − 1]`, exact. -/
def nvmSum (m : Memory) : Nat → Nat
  | 0 => 0
  | n + 1 => nvmSum m n + (cellRead m n).toNat

/-- `Checksum(NVM)` (R39): the sum of the 12 data bytes and the seed, modulo 256. -/
def checksum (seed : Byte) (m : Memory) : Byte := BitVec.ofNat 8 (nvmSum m 12 + seed.toNat)

/-- The record is valid (R39): `NVM[12] = Checksum(NVM)`. -/
def recordValid (seed : Byte) (m : Memory) : Bool := nvmRead m 12 == checksum seed m

/-! ### Time, faults, interrupts -/

/-- `Now()` (R61): `{ (TICKS + TOV0) mod 256, CNT0 }`. -/
def now (s : State) : Word := joinBytes s.cnt0 (s.ticks + if s.tov0 then 1#8 else 0#8)

/-- `fault <Name>` (R116): one sticky bit of `FLT` is set, and nothing else happens. The block has no
trap: no control is transferred and nothing is saved. -/
def raiseFault (f : FaultName) (s : State) : State := { s with flt := s.flt ||| faultBit f }

/-- TAKING AN INTERRUPT (R124), shared by the four handlers. If the source is eligible its pending flag
is cleared and the handler's body runs, in one atomic step; nothing is saved and `IE` is not changed. A
handler that is not eligible has no effect (R122). There is no return operation: a handler has returned
when its operation is complete and no publish it started is in flight (R125, `intActive`). -/
def takeInterrupt (src : Source) (body : State → State) (s : State) : State :=
  if eligible s src then body (clearPending s src) else s

/-! ### Record arithmetic and the width request -/

/-- `MIN + (MAX − MIN) / 2`, floor (R87). The subtraction wraps at 16 bits, which matters only for
`MIN > MAX` (notes/assumptions/8.md). -/
def midPoint (min max : Word) : Word := min + (max - min) / 2#16

/-- `MIN + (MAX −₁₆ MIN) / 16`, floor, modulo 65536 (R87, R114). -/
def lowThrottle (min max : Word) : Word := min + (max - min) / 16#16

/-- `SetW(a, b)` (R102): both requested widths at once, or the fault `WidthRange` with `NW` unchanged
where their exact sum exceeds the period. -/
def setW (a b : Word) (s : State) : State :=
  if a.toNat + b.toNat > Config.outPeriod then raiseFault .widthRange s
  else { s with nw := { c0 := a, c1 := b } }

end Sys2Proof.Machine
end

