-- ==== Sys2Proof/Machine/Calibration.lean ====
section
/-! DEFINITION. The Calibration State Machine (spec 43_calibration.md): CAL_STEP, CAL_SAMPLE, and the
procedures CalSample and Finish. -/

namespace Sys2Proof.Machine

/-- The kind of a calibration state (R81). -/
inductive CalKind where
  | high
  | wait
  | low
  | terminal
deriving DecidableEq, Repr

/-- The kind column of R81. -/
def calKind : CalState → CalKind
  | .c0High => .high
  | .waitA => .wait
  | .c0Low => .low
  | .waitB => .wait
  | .c1High => .high
  | .waitC => .wait
  | .c1Low => .low
  | .done => .terminal

/-- The active channel (R81): 0 while `CAL_STATE ≤ 2`, else 1. `DONE` has none and never asks. -/
def calActive : CalState → Ch
  | .c0High => .ch0
  | .waitA => .ch0
  | .c0Low => .ch0
  | .waitB => .ch1
  | .c1High => .ch1
  | .waitC => .ch1
  | .c1Low => .ch1
  | .done => .ch1

/-- `CAL_STATE + 1` (R81); `DONE` stays. -/
def calNext : CalState → CalState
  | .c0High => .waitA
  | .waitA => .c0Low
  | .c0Low => .waitB
  | .waitB => .c1High
  | .c1High => .waitC
  | .waitC => .c1Low
  | .c1Low => .done
  | .done => .done

/-- The record's three fields of one channel written at offsets `6c` to `6c + 5` (R38, R87). -/
def writeFields (m : Memory) (c : Ch) (min max mid : Word) : Memory :=
  match c with
  | .ch0 => nvmWriteWord (nvmWriteWord (nvmWriteWord m 0 1 min) 2 3 max) 4 5 mid
  | .ch1 => nvmWriteWord (nvmWriteWord (nvmWriteWord m 6 7 min) 8 9 max) 10 11 mid

/-- The store after Finish (R87): the 12 data bytes in ascending order, then the checksum over them. -/
def writeRecord (seed : Byte) (m : Memory) (min max mid : Chan Word) : Memory :=
  let data := writeFields (writeFields m .ch0 min.c0 max.c0 mid.c0) .ch1 min.c1 max.c1 mid.c1
  nvmWrite data 12 (checksum seed data)

/-- `Finish()` (R87). -/
def finish (s : State) : State :=
  let mid : Chan Word :=
    { c0 := midPoint s.cmin.c0 s.cmax.c0, c1 := midPoint s.cmin.c1 s.cmax.c1 }
  { s with
    cmid := mid
    thr := lowThrottle s.cmin.c0 s.cmax.c0
    nvm := writeRecord s.params.chkSeed s.nvm s.cmin s.cmax mid
    recValid := true
    ind := true
    calState := .done }

/-- A sample that did not improve the extreme (R84, R85): the stability counter is incremented, and the
state is left for `leave` once the incremented value exceeds `CAL_THRESH`. -/
def calStable (leave : State → State) (s : State) : State :=
  if s.calCnt.toNat + 1 > s.params.calThresh.val then leave { s with calCnt := 0#16 }
  else { s with calCnt := s.calCnt + 1#16 }

/-- The HIGH states (R84). -/
def calHigh (w : Word) (s : State) : State :=
  let a := calActive s.calState
  if w > s.cmax.get a then { s with cmax := s.cmax.set a w, calCnt := 0#16 }
  else calStable (fun t => { t with calState := calNext t.calState }) s

/-- The LOW states (R85): leaving the last one is Finish. -/
def calLow (w : Word) (s : State) : State :=
  let a := calActive s.calState
  if w < s.cmin.get a then { s with cmin := s.cmin.set a w, calCnt := 0#16 }
  else calStable
    (fun t => if t.calState = .c1Low then finish t else { t with calState := calNext t.calState }) s

/-- The WAIT states (R86): the sample is discarded, and entering a LOW state sets the minimum of the
active channel to its maximum. -/
def calWaitStep (s : State) : State :=
  let a := calActive s.calState
  let next := calNext s.calState
  if s.calCnt.toNat + 1 ≥ s.params.calWait then
    { s with
      calCnt := 0#16
      calState := next
      cmin := if calKind next = .low then s.cmin.set a (s.cmax.get a) else s.cmin }
  else { s with calCnt := s.calCnt + 1#16 }

/-- `CalSample(ch, w)` (section 3 of 43_calibration.md): nothing in `DONE` (R88) and nothing for a
channel that is not active (R81). -/
def calSampleOp (c : Ch) (w : Word) (s : State) : State :=
  match calKind s.calState with
  | .terminal => s
  | .high => if c = calActive s.calState then calHigh w s else s
  | .low => if c = calActive s.calState then calLow w s else s
  | .wait => if c = calActive s.calState then calWaitStep s else s

/-- `CAL_STEP ch` (R82): consumes the width held in `CHV[ch]` if it is fresh. -/
def execCalStep (c : Ch) (s : State) : Result :=
  .next
    (if isCalibrating s && s.fresh.get c then
      calSampleOp c (s.chv.get c) { s with fresh := s.fresh.set c false }
    else s)

/-- `CAL_SAMPLE ch, w` (R83): presents a width directly. -/
def execCalSample (c : Ch) (w : Word) (s : State) : Result :=
  .next
    (if isCalibrating s then
      calSampleOp c w { s with chv := s.chv.set c w, fresh := s.fresh.set c false }
    else s)

end Sys2Proof.Machine
end

