-- ==== Sys2Proof/Machine/Mailbox.lean ====
section
/-! DEFINITION. The Mailbox (spec 41_mailbox.md): PUBLISH, PUB_STEP, TAKE_STEP, TRY_TAKE. -/

namespace Sys2Proof.Machine

/-- The latch writes that start a publish of `v` on channel `c` (R69, and CAPTURE's R77). -/
def startPublish (c : Ch) (v : Word) (s : State) : State :=
  { s with pubv := s.pubv.set c v, pubp := s.pubp.set c .p1 }

/-- `PUBLISH ch, v` (R69): starts a publish unless one is in flight on that channel. -/
def execPublish (c : Ch) (v : Word) (s : State) : Result :=
  .next (if s.pubp.get c = .idle then startPublish c v s else s)

/-- The next step P1 to P5 of the publish in flight on channel `c` (R70); none in flight, no effect. -/
def pubStepOp (c : Ch) (s : State) : State :=
  match s.pubp.get c with
  | .idle => s
  | .p1 => { s with mbSeq := s.mbSeq.set c (s.mbSeq.get c + 1#8), pubp := s.pubp.set c .p2 }
  | .p2 =>
    { s with
      mbVal := s.mbVal.set c (setLowByte (s.mbVal.get c) (lowByte (s.pubv.get c)))
      pubp := s.pubp.set c .p3 }
  | .p3 =>
    { s with
      mbVal := s.mbVal.set c (setHighByte (s.mbVal.get c) (highByte (s.pubv.get c)))
      pubp := s.pubp.set c .p4 }
  | .p4 => { s with mbNe := s.mbNe.set c true, pubp := s.pubp.set c .p5 }
  | .p5 => { s with mbSeq := s.mbSeq.set c (s.mbSeq.get c + 1#8), pubp := s.pubp.set c .idle }

/-- `PUB_STEP ch` (R70): it does not depend on `IE`. -/
def execPubStep (c : Ch) (s : State) : Result := .next (pubStepOp c s)

/-- The sequence counter is odd: a publish is between its two increments (R68, R75). -/
def seqOdd (seq : Byte) : Bool := seq.getLsbD 0

/-- The next step T1 to T6 of a take on channel `c` (R71). -/
def takeStepOp (c : Ch) (s : State) : State :=
  match s.tkp.get c with
  | .idle =>
    if seqOdd (s.mbSeq.get c) then
      { s with tks1 := s.tks1.set c (s.mbSeq.get c), tkok := s.tkok.set c false }
    else { s with tks1 := s.tks1.set c (s.mbSeq.get c), tkp := s.tkp.set c .t2 }
  | .t2 =>
    { s with
      tkv := s.tkv.set c (setLowByte (s.tkv.get c) (lowByte (s.mbVal.get c)))
      tkp := s.tkp.set c .t3 }
  | .t3 =>
    { s with
      tkv := s.tkv.set c (setHighByte (s.tkv.get c) (highByte (s.mbVal.get c)))
      tkp := s.tkp.set c .t4 }
  | .t4 => { s with tkne := s.tkne.set c (s.mbNe.get c), tkp := s.tkp.set c .t5 }
  | .t5 =>
    if s.tkne.get c = true ∧ s.mbSeq.get c = s.tks1.get c then
      { s with tkp := s.tkp.set c .t6 }
    else { s with tkok := s.tkok.set c false, tkp := s.tkp.set c .idle }
  | .t6 =>
    { s with
      mbNe := s.mbNe.set c false
      chv := s.chv.set c (s.tkv.get c)
      fresh := s.fresh.set c true
      tkok := s.tkok.set c true
      tkp := s.tkp.set c .idle }

/-- `TAKE_STEP ch` (R71). -/
def execTakeStep (c : Ch) (s : State) : Result := .next (takeStepOp c s)

/-- `repeat TAKE_STEP ch until TKP[ch] = 0` (R72), at most `fuel` times. -/
def takeUntilIdle : Nat → Ch → State → State
  | 0, _, s => s
  | fuel + 1, c, s =>
    let t := takeStepOp c s
    if t.tkp.get c = .idle then t else takeUntilIdle fuel c t

/-- `TRY_TAKE ch` (R72): a whole take, of 1, 5 or 6 steps, unless a stepped take is in progress on that
channel. -/
def execTryTake (c : Ch) (s : State) : Result :=
  .next (if s.tkp.get c = .idle then takeUntilIdle 6 c s else s)

end Sys2Proof.Machine
end

