-- ==== Sys2Proof/Machine/Capture.lean ====
section
/-! DEFINITION. Input Capture (spec 42_input_capture.md): PIN, CAPTURE. -/

namespace Sys2Proof.Machine

/-- `PIN lv` (R76): the environment drives both pins; a change of either sets `PCF`. -/
def execPin (lv : BitVec 2) (s : State) : Result :=
  .next { s with pcf := s.pcf || pinsChanged s.pins lv, pins := lv }

/-- One channel's part of R77's loop, from the snapshot level `l` and timestamp `t`: a rising edge opens
a pulse, the falling edge of an open pulse starts the publish of its width, and the level memory takes
the level. -/
def captureChannel (t : Word) (c : Ch) (l : Bool) (s : State) : State :=
  let s1 :=
    match s.prev.get c, l with
    | false, true => { s with ref := s.ref.set c t, pulseOpen := s.pulseOpen.set c true }
    | true, false =>
      if s.pulseOpen.get c then
        { startPublish c (t - s.ref.get c) s with pulseOpen := s.pulseOpen.set c false }
      else s
    | false, false => s
    | true, true => s
  { s1 with prev := s1.prev.set c l }

/-- The body of the pin-change handler (R77, R78): one level snapshot and one timestamp for both
channels, channel 0 first. -/
def captureBody (s : State) : State :=
  captureChannel (now s) .ch1 (level s.pins .ch1)
    (captureChannel (now s) .ch0 (level s.pins .ch0) s)

/-- `CAPTURE` (R77): the pin-change handler. -/
def execCapture (s : State) : Result := .next (takeInterrupt .pinChange captureBody s)

end Sys2Proof.Machine
end

