-- ==== Sys2Proof/Machine/Output.lean ====
section
/-! DEFINITION. The Output Generator (spec 45_output_generator.md): TICK_OUT, OVF1_SVC, CMP1_SVC,
SET_WIDTHS, OUT_CFG, OUT_START, OUT_POLL, and the procedures Program, EnterStage and Expire. -/

namespace Sys2Proof.Machine

/-- `TICK_OUT` (R96): the output counter counts modulo 256; a wraparound sets `TOV1`, a match `OCF1`,
and both in one tick while `RUN = 1` the fault `OutputHazard`. No enabling condition. -/
def execTickOut (s : State) : Result :=
  let count := s.tcnt1 + 1#8
  let ov := counterWrapped count
  let cm := compareMatched count s.ocr1
  let t := { s with tcnt1 := count, tov1 := s.tov1 || ov, ocf1 := s.ocf1 || cm }
  .next (if ov && cm && s.run then raiseFault .outputHazard t else t)

/-- `Program(D)` (R97): the timer programmed for a stage of `D` ticks, with the counter started `M`
ticks ahead where the low byte of `D` is below the margin `M`. -/
def program (d : Word) (s : State) : State :=
  let m := s.params.outMargin
  let lo := lowByte d
  let hi := highByte d
  let biased := decide (lo.toNat < m)
  { s with
    tcnt1 := if biased then BitVec.ofNat 8 m else 0#8
    ocr1 := if biased then lo + BitVec.ofNat 8 m else lo
    hi1 := hi
    tov1 := false
    ocf1 := false
    ocie1 := hi == 0#8 }

/-- `Dur(STAGE)` (R95). The idle remainder is never negative, because SetW refuses a larger sum (R98);
where it would be, the model takes 0 (notes/assumptions/9.md). -/
def duration (st : Stage) (s : State) : Word :=
  match st with
  | .stage0 => s.w.c0
  | .stage1 => s.w.c1
  | .stage2 => BitVec.ofNat 16 (Config.outPeriod - s.w.c0.toNat - s.w.c1.toNat)

/-- The stage that follows (R95, R99). -/
def Stage.next : Stage → Stage
  | .stage0 => .stage1
  | .stage1 => .stage2
  | .stage2 => .stage0

/-- What `EnterStage(s)` does before it looks at the duration (R98): on Stage0 it latches the widths of
the new period and raises `OUT[0]`. -/
def openStage (st : Stage) (s : State) : State :=
  match st with
  | .stage0 => { s with stage := .stage0, w := s.nw, out := s.out.set .ch0 true }
  | .stage1 => { s with stage := .stage1 }
  | .stage2 => { s with stage := .stage2 }

/-- The pin actions and the completion flag of `Expire(s)` (R99), before it enters the next stage. -/
def closeStage (st : Stage) (s : State) : State :=
  match st with
  | .stage0 =>
    { s with out := if s.ch1En then { c0 := false, c1 := true } else s.out.set .ch0 false }
  | .stage1 => { s with out := s.out.set .ch1 false }
  | .stage2 => { s with outDone := true }

/-- `EnterStage(s)` (R98): a zero-length stage expires in the operation that enters it. The recursion
EnterStage → Expire → EnterStage is never more than five calls deep, so `fuel` 5 is never exhausted
(notes/assumptions/10.md). -/
def enterStage : Nat → Stage → State → State
  | 0, _, s => s
  | fuel + 1, st, s =>
    let t := openStage st s
    let d := duration st t
    if d = 0#16 then enterStage fuel st.next (closeStage st { t with ocie1 := false })
    else program d t

/-- The depth that R98 bounds the recursion by. -/
def stageDepth : Nat := 5

/-- `Expire(s)` (R99): the stage has run its time. -/
def expire (st : Stage) (s : State) : State := enterStage stageDepth st.next (closeStage st s)

/-- `OVF1_SVC` (R100): the output-overflow handler counts the high byte down and arms the compare when
it reaches 0, discarding the matches of earlier laps. -/
def execOvf1Svc (s : State) : Result :=
  .next
    (takeInterrupt .outputOverflow
      (fun t =>
        if t.hi1 = 0#8 then t
        else if t.hi1 - 1#8 = 0#8 then { t with hi1 := 0#8, ocf1 := false, ocie1 := true }
        else { t with hi1 := t.hi1 - 1#8 })
      s)

/-- `CMP1_SVC` (R101): the compare-match handler ends the stage. -/
def execCmp1Svc (s : State) : Result :=
  .next (takeInterrupt .outputCompare (fun t => expire t.stage { t with ocie1 := false }) s)

/-- `SET_WIDTHS w0, w1` (R102). -/
def execSetWidths (w0 w1 : Word) (s : State) : Result :=
  .next (if isRunning s then setW w0 w1 s else s)

/-- `OUT_CFG e` (R103). No enabling condition. -/
def execOutCfg (e : Bool) (s : State) : Result := .next { s with ch1En := e }

/-- `OUT_START` (R104): starts the generator, once, in Running mode; it does not need `IE`. -/
def execOutStart (s : State) : Result :=
  .next
    (if isRunning s && !s.run then
      enterStage stageDepth .stage0 { s with run := true, toie1 := true }
    else s)

/-- `OUT_POLL` (R105): reads and clears the completion flag. No enabling condition. -/
def execOutPoll (s : State) : Result :=
  .next { s with pollRes := s.outDone, outDone := false }

end Sys2Proof.Machine
end

