-- ==== Sys2Proof/Machine/System.lean ====
section
/-! DEFINITION. The system operations (spec 46_system.md): RESET, BOOT, IRQ_MASK, IRQ_UNMASK, NVM_SET,
and the procedure Load. -/

namespace Sys2Proof.Machine

/-- `RESET` (R109): every register S0 to S49 takes its reset value (R35); NVM is unchanged. The model's
own fields are no registers and stay as they are. -/
def execReset (s : State) : Result :=
  .next { State.reset with nvm := s.nvm, params := s.params, stream := s.stream }

/-- `Load()` (R114): `none` is Mismatch, and writes no register. -/
def load (s : State) : Option State :=
  if recordValid s.params.chkSeed s.nvm then
    let min : Chan Word := { c0 := nvmReadWord s.nvm 0 1, c1 := nvmReadWord s.nvm 6 7 }
    let max : Chan Word := { c0 := nvmReadWord s.nvm 2 3, c1 := nvmReadWord s.nvm 8 9 }
    let mid : Chan Word := { c0 := nvmReadWord s.nvm 4 5, c1 := nvmReadWord s.nvm 10 11 }
    some { s with
      cmin := min
      cmax := max
      cmid := mid
      thr := lowThrottle min.c0 max.c0
      recValid := true }
  else none

/-- `ENG_ST <- ACTIVE; IE <- 1; PCIE <- 1; TOIE0 <- 1` (R110). -/
def activate (s : State) : State :=
  { s with engSt := .active, ie := true, pcie := true, toie0 := true }

/-- `BOOT j` (R110): effective only in `PREBOOT`. A checksum mismatch halts the engine (R115, R117). -/
def execBoot (j : Bool) (s : State) : Result :=
  .next
    (if s.engSt = .preboot then
      if j then activate { s with mode := .calibrating }
      else
        match load { s with mode := .running } with
        | some t => activate t
        | none => raiseFault .checksumMismatch { s with mode := .running, engSt := .halted }
    else s)

/-- `IRQ_MASK` (R111): enters a critical section; only in `ACTIVE`. -/
def execIrqMask (s : State) : Result :=
  .next (if s.engSt = .active then { s with ie := false } else s)

/-- `IRQ_UNMASK` (R112): leaves a critical section; only in `ACTIVE`. -/
def execIrqUnmask (s : State) : Result :=
  .next (if s.engSt = .active then { s with ie := true } else s)

/-- `NVM_SET i, b` (R113): the environment sets one byte of the store. An offset above 12 is an illegal
encoding (R56), which no decoded word gives; the record has no such byte (R37). -/
def execNvmSet (i b : Byte) (s : State) : Result :=
  if h : i.toNat < 13 then .next { s with nvm := nvmWrite s.nvm ⟨i.toNat, h⟩ b }
  else .fault (.nvmOffsetAbsent i)

end Sys2Proof.Machine
end

