-- ==== Sys2Proof/Machine/Timestamper.lean ====
section
/-! DEFINITION. The Edge Timestamper (spec 40_timestamper.md): TICK_IN, OVF0_SVC, NOW. -/

namespace Sys2Proof.Machine

/-- `TICK_IN` (R62): the input counter counts modulo 256; a wraparound sets `TOV0`, which stays 1 if it
was 1. No enabling condition. -/
def execTickIn (s : State) : Result :=
  .next { s with
    cnt0 := s.cnt0 + 1#8
    tov0 := s.tov0 || counterWrapped (s.cnt0 + 1#8) }

/-- `OVF0_SVC` (R63): the input-overflow handler counts one overflow tick. -/
def execOvf0Svc (s : State) : Result :=
  .next (takeInterrupt .inputOverflow (fun t => { t with ticks := t.ticks + 1#8 }) s)

/-- `NOW` (R64): samples the timestamp, writing nothing else. No enabling condition. -/
def execNow (s : State) : Result := .next { s with tsRes := now s }

end Sys2Proof.Machine
end

