-- ==== Sys2Proof/Machine/Transform.lean ====
section
/-! DEFINITION. The Channel Transform (spec 44_transform.md): MIX, XFORM, and the function Transform. -/

namespace Sys2Proof.Machine

/-- `clamp(x, lo, hi)` (R9), the test against `lo` first; the result fits 16 bits. -/
def clamp (x : Int) (lo hi : Word) : Word :=
  if x < (lo.toNat : Int) then lo else if x > (hi.toNat : Int) then hi else BitVec.ofInt 16 x

/-- `h = tdiv2(s − CMID[1])` (R91, R9): the signed offset of the secondary, halved toward zero. -/
def halfOffset (q mid : Word) : Int := ((q.toNat : Int) - (mid.toNat : Int)).tdiv 2

/-- `Transform(p, s)` (R91) on the values of `THR`, `CMID[1]`, `CMIN[0]` and `CMAX[0]`; intermediates
are mathematical integers. -/
def transform (thr mid lo hi p q : Word) : Word × Word :=
  if p < thr then (clamp p.toNat lo hi, clamp p.toNat lo hi)
  else (clamp (p.toNat + halfOffset q mid) lo hi, clamp (p.toNat - halfOffset q mid) lo hi)

/-- `Transform(p, s)` reading the registers of the state. -/
def transformOf (s : State) (p q : Word) : Word × Word :=
  transform s.thr s.cmid.c1 s.cmin.c0 s.cmax.c0 p q

/-- The step MIX and XFORM share (R92, R93): both widths consumed, the result handed to SetW. -/
def mixOp (p q : Word) (s : State) : State :=
  setW (transformOf s p q).1 (transformOf s p q).2 { s with fresh := .both false }

/-- `MIX` (R92): only in Running mode and only when both widths are fresh. -/
def execMix (s : State) : Result :=
  .next
    (if isRunning s && s.fresh.c0 && s.fresh.c1 then mixOp s.chv.c0 s.chv.c1 s else s)

/-- `XFORM p, s` (R93): the transform of immediate widths. -/
def execXform (p q : Word) (s : State) : Result :=
  .next (if isRunning s then mixOp p q { s with chv := { c0 := p, c1 := q } } else s)

end Sys2Proof.Machine
end

