-- ==== Sys2Proof/Machine/Dispatch.lean ====
section
/-! DEFINITION. The one dispatch from an operation to its meaning, one arm per constructor of `Instr`. -/

namespace Sys2Proof.Machine

def exec (i : Instr) (s : State) : Host.Outcome State Fault Refusal :=
  match i with
  | .reset => Sys2Proof.Machine.execReset s
  | .tickIn => Sys2Proof.Machine.execTickIn s
  | .tickOut => Sys2Proof.Machine.execTickOut s
  | .ovf0Svc => Sys2Proof.Machine.execOvf0Svc s
  | .capture => Sys2Proof.Machine.execCapture s
  | .ovf1Svc => Sys2Proof.Machine.execOvf1Svc s
  | .cmp1Svc => Sys2Proof.Machine.execCmp1Svc s
  | .now => Sys2Proof.Machine.execNow s
  | .irqMask => Sys2Proof.Machine.execIrqMask s
  | .irqUnmask => Sys2Proof.Machine.execIrqUnmask s
  | .mix => Sys2Proof.Machine.execMix s
  | .outStart => Sys2Proof.Machine.execOutStart s
  | .outPoll => Sys2Proof.Machine.execOutPoll s
  | .pin lv => Sys2Proof.Machine.execPin lv s
  | .boot j => Sys2Proof.Machine.execBoot j s
  | .outCfg e => Sys2Proof.Machine.execOutCfg e s
  | .pubStep c => Sys2Proof.Machine.execPubStep c s
  | .takeStep c => Sys2Proof.Machine.execTakeStep c s
  | .tryTake c => Sys2Proof.Machine.execTryTake c s
  | .calStep c => Sys2Proof.Machine.execCalStep c s
  | .nvmSet a b => Sys2Proof.Machine.execNvmSet a b s
  | .publish c v => Sys2Proof.Machine.execPublish c v s
  | .calSample c w => Sys2Proof.Machine.execCalSample c w s
  | .setWidths w0 w1 => Sys2Proof.Machine.execSetWidths w0 w1 s
  | .xform p q => Sys2Proof.Machine.execXform p q s

end Sys2Proof.Machine
end

