-- ==== Sys2Proof/Machine/Step.lean ====
section
/-! DEFINITION. One step of the machine: the operation word at the front of the stream is decoded
(spec 30_encoding.md R58) and performed. The block has no program counter (R31): its operations arrive
from its agents, and the stream is the trace they have supplied (notes/assumptions/1.md). -/

namespace Sys2Proof.Machine

/-- One operation of the trace. An illegal word is refused and the state is not touched (R56); at the
end of the stream there is nothing to perform. The order of the operations is the stream's alone: no
priority among the interrupt sources is built in (R123). -/
def step (s : State) : Host.Outcome State Fault Refusal :=
  match Sys2Proof.decodeOne s.stream with
  | .finished => .refused .streamFinished
  | .illegal why => .refused (.illegalWord why)
  | .op i rest => exec i { s with stream := rest }

/-- The state whose stream starts with the word `w` of spec/opcode_table.json, so that the next step
performs it. -/
def State.withFetchWord (s : State) (nbits w : Nat) : State :=
  { s with stream := Sys2Proof.wordBytes nbits w ++ s.stream.drop 5 }

end Sys2Proof.Machine
end

