-- ==== Sys2Proof/Machine/Trace.lean ====
section
/-! DEFINITION. Traces (spec 00_scope.md R10, R11; 60_exceptions.md R127; 30_encoding.md R60): the agent
that performs each operation, a list of operations applied in order, finite and infinite traces, the set of
behaviours of the hardware, and the pseudo-instructions. -/

namespace Sys2Proof.Machine

/-- The four agents (R11). -/
inductive Agent where
  /-- The two free-running hardware counters. -/
  | hw
  /-- The environment outside the block. -/
  | env
  /-- Interrupt context. -/
  | irq
  /-- Main-loop context. -/
  | main
deriving DecidableEq, Repr

/-- The agent column of R55. -/
def agent : Instr → Agent
  | .reset => .env
  | .tickIn => .hw
  | .tickOut => .hw
  | .ovf0Svc => .irq
  | .capture => .irq
  | .ovf1Svc => .irq
  | .cmp1Svc => .irq
  | .now => .main
  | .irqMask => .main
  | .irqUnmask => .main
  | .mix => .main
  | .outStart => .main
  | .outPoll => .main
  | .pin _ => .env
  | .boot _ => .main
  | .outCfg _ => .main
  | .pubStep _ => .irq
  | .takeStep _ => .main
  | .tryTake _ => .main
  | .calStep _ => .main
  | .nvmSet _ _ => .env
  | .publish _ _ => .irq
  | .calSample _ _ => .main
  | .setWidths _ _ => .main
  | .xform _ _ => .main

/-- The operations of a trace applied one after another (R10, R45). -/
def execList : List Instr → State → Result
  | [], s => .next s
  | i :: rest, s =>
    match exec i s with
    | .next t => execList rest t
    | .fault r => .fault r
    | .refused r => .refused r

/-- Condition (2) of R127 for one operation: under `STRICT_CTX` no MAIN operation occurs while a
publish is in flight. -/
def admissibleAt (strict : Bool) (i : Instr) (s : State) : Bool :=
  !(strict && agent i == .main && intActive s)

/-- R127: every word legal, and every operation admissible in the state it finds. -/
def admissible (strict : Bool) : List Instr → State → Bool
  | [], _ => true
  | i :: rest, s =>
    wellFormed i && admissibleAt strict i s &&
      match exec i s with
      | .next t => admissible strict rest t
      | .fault _ => false
      | .refused _ => false

/-! ### Traces and the behaviour of the hardware (R10) -/

/-- "A trace is a finite or infinite sequence of operations" (R10). -/
inductive Trace where
  | finite (ops : List Instr)
  | infinite (op : Nat → Instr)

/-- The first `n` operations of an infinite sequence. -/
def firstOps (op : Nat → Instr) : Nat → List Instr
  | 0 => []
  | n + 1 => firstOps op n ++ [op n]

/-- The operations of a trace up to its `n`-th, or all of them where it has fewer. -/
def Trace.upTo : Trace → Nat → List Instr
  | .finite ops, n => ops.take n
  | .infinite op, n => firstOps op n

/-- What a trace has come to after `n` operations. -/
def stateAt (tr : Trace) (start : State) (n : Nat) : Result := execList (tr.upTo n) start

/-- R127 for a trace of either kind: every operation is legal and admissible in the state it finds. -/
def AdmissibleTrace (strict : Bool) (tr : Trace) (start : State) : Prop :=
  ∀ n : Nat, admissible strict (tr.upTo n) start = true

/-- Where a trace begins (R132, R133): every register at its reset value, with an arbitrary store and any
legal parameters (R5). The stream plays no part: the trace is given. -/
def PowerOn (s : State) : Prop :=
  s = { State.reset with nvm := s.nvm, params := s.params, stream := s.stream } ∧ s.nvm.wf = true

/-- The trace is a behaviour of the hardware from `start`: admissible under `STRICT_CTX` from the reset
state (R10). -/
def IsBehaviour (start : State) (tr : Trace) : Prop :=
  PowerOn start ∧ AdmissibleTrace Config.strictCtx tr start

/-- "The behaviour of the hardware is the set of admissible traces applied from the reset state" (R10), a
set and no function of the inputs (R123). -/
def behaviours : Set (State × Trace) := fun b => IsBehaviour b.1 b.2

/-! ### Pseudo-instructions (R60) -/

/-- `l` repeated `n` times. -/
def times : Nat → List Instr → List Instr
  | 0, _ => []
  | n + 1, l => l ++ times n l

/-- `TICKS_IN n`. -/
def ticksIn (n : Nat) : List Instr := times n [.tickIn]

/-- `TICKS_OUT n`. -/
def ticksOut (n : Nat) : List Instr := times n [.tickOut]

/-- `TICK_IN.S`: one input tick with prompt overflow service. -/
def tickInS : List Instr := [.tickIn, .ovf0Svc]

/-- `TICK_OUT.S`: one output tick with prompt service (R106). -/
def tickOutS : List Instr := [.tickOut, .ovf1Svc, .cmp1Svc]

/-- `RUN_OUT n`. -/
def runOut (n : Nat) : List Instr := times n tickOutS

/-- `DRAIN`: finishes every publish in flight. -/
def drain : List Instr := times 5 [.pubStep .ch0] ++ times 5 [.pubStep .ch1]

/-- `CAPTURE.A`: the whole pin-change handler including its publishes. -/
def captureA : List Instr := .capture :: drain

/-- `PUBLISH.A ch, v`: a complete publish. -/
def publishA (c : Ch) (v : Word) : List Instr := .publish c v :: times 5 [.pubStep c]

/-- `LOOP_CAL`: one main-loop iteration in Calibrating mode. -/
def loopCal : List Instr := [.tryTake .ch0, .tryTake .ch1, .calStep .ch0, .calStep .ch1]

/-- `LOOP_RUN`: one main-loop iteration in Running mode. -/
def loopRun : List Instr := [.tryTake .ch0, .tryTake .ch1, .mix]

/-- `WAIT_OUT`: repeat OUT_POLL until `POLL_RES = 1`, with what the other agents do between two polls
given as `between`. `none`: it is still waiting after the last of them (it has no timeout). -/
def waitOut : List (List Instr) → State → Option State
  | between, s =>
    match exec .outPoll s with
    | .fault _ => none
    | .refused _ => none
    | .next t =>
      if t.pollRes then some t
      else
        match between with
        | [] => none
        | others :: rest =>
          match execList others t with
          | .next u => waitOut rest u
          | .fault _ => none
          | .refused _ => none

/-- `WAIT_OUT` "has no timeout and does not terminate if the generator is not running" (R60): with what the
other agents do between the polls given for ever, no poll finds the flag set. -/
def WaitsForever (between : Nat → List Instr) (s : State) : Prop :=
  ∀ n : Nat, waitOut ((List.range n).map between) s = none

end Sys2Proof.Machine
end

