-- ==== Sys2Proof/Safety.lean ====
section
/-! DEFINITION. The terms in which claims about the machine are made: what an operation word spells,
what reading the store gives, the invariants of the spec's own property rules (R75, R78, R90, R107,
R115), and when no overflow tick is lost (R66). -/

namespace Sys2Proof.Machine

/-- The bytes are the operation word of `i`: they decode to it at the front of any stream, and it
encodes to them. -/
def Spells (i : Instr) (bytes : List Byte) : Prop :=
  encode i = bytes ∧ ∀ rest : List Byte, decodeOne (bytes ++ rest) = .op i rest

/-- Every byte of the store reads in `t` as it reads in `s`. -/
def NvmReadsSame (s t : State) : Prop := ∀ a : Fin 13, nvmRead t.nvm a = nvmRead s.nvm a

/-- The store's last byte is the checksum of the other twelve (R39): their sum and the seed, modulo
256. -/
def ChecksumAgrees (s : State) : Prop :=
  (nvmRead s.nvm 12).toNat =
    ((nvmRead s.nvm 0).toNat + (nvmRead s.nvm 1).toNat + (nvmRead s.nvm 2).toNat +
     (nvmRead s.nvm 3).toNat + (nvmRead s.nvm 4).toNat + (nvmRead s.nvm 5).toNat +
     (nvmRead s.nvm 6).toNat + (nvmRead s.nvm 7).toNat + (nvmRead s.nvm 8).toNat +
     (nvmRead s.nvm 9).toNat + (nvmRead s.nvm 10).toNat + (nvmRead s.nvm 11).toNat +
     s.params.chkSeed.toNat) % 256

/-- The canonical form of the store holds. -/
def NvmCanonical (s : State) : Prop := s.nvm.wf = true

/-- A publish on the channel is between its two increments of the sequence counter (R75). -/
def midPublish : PubPhase → Bool
  | .idle => false
  | .p1 => false
  | .p2 => true
  | .p3 => true
  | .p4 => true
  | .p5 => true

/-- The sequence parity invariant (R75): odd exactly mid-publish, on both channels. -/
def SeqParity (s : State) : Prop := ∀ c : Ch, seqOdd (s.mbSeq.get c) = midPublish (s.pubp.get c)

/-- The derived invariant of R78. -/
def OpenIsPrev (s : State) : Prop := s.pulseOpen = s.prev

/-- Both pairs of widths fit the period (R98, R102). -/
def WidthsFit (s : State) : Prop :=
  s.nw.c0.toNat + s.nw.c1.toNat ≤ Config.outPeriod ∧ s.w.c0.toNat + s.w.c1.toNat ≤ Config.outPeriod

/-- The generator is not running and drives nothing (R35, R104). -/
structure GeneratorIdle (s : State) : Prop where
  overflow_disabled : s.toie1 = false
  compare_disabled : s.ocie1 = false
  outputs_low : s.out = .both false

/-- The generator is running: the compare value keeps the margin (R107), the pins are those of the
stage (R95), and the compare interrupt is enabled exactly in the final lap (R29). -/
structure GeneratorRunning (s : State) : Prop where
  margin_le_compare : s.params.outMargin ≤ s.ocr1.toNat
  out0_iff_stage0 : s.out.c0 = decide (s.stage = .stage0)
  out1_only_stage1 : s.out.c1 = true → s.stage = .stage1
  armed_iff_final_lap : s.ocie1 = decide (s.hi1 = 0#8)
  overflow_enabled : s.toie1 = true

/-- The output generator's invariant, with glitch freedom: `FLT[1]` is 0 (R107). -/
structure GeneratorInv (s : State) : Prop where
  idle : s.run = false → GeneratorIdle s
  running : s.run = true → GeneratorRunning s
  no_hazard : hasFault s.flt .outputHazard = false

/-- What `HALTED` keeps (R115), with the switched-off generator. -/
structure Inert (s : State) : Prop where
  masked : s.ie = false
  stopped : s.run = false
  outputs_low : s.out = .both false
  indicator_off : s.ind = false
  no_record : s.recValid = false
  no_compare : s.ocie1 = false

/-- The engine's invariant: nothing productive before BOOT or when halted (R115, R134), the generator
runs only in Running mode (R104), calibration moves only in Calibrating mode (R82, R83), and the
indicator is on exactly in `DONE` (R87). -/
structure EngineInv (s : State) : Prop where
  preboot_inert : s.engSt = .preboot → Inert s
  halted_inert : s.engSt = .halted →
    Inert s ∧ s.mode = .running ∧ hasFault s.flt .checksumMismatch = true
  run_mode : s.run = true → isRunning s = true
  calibration_mode : s.calState ≠ .c0High → isCalibrating s = true
  indicator_iff_done : s.ind = decide (s.calState = .done)
  stopped_low : s.run = false → s.out = .both false ∧ s.ocie1 = false ∧ s.toie1 = false

/-- From here on the minimum of channel 0 is recorded (R86, R90 d). -/
def lowSeen0 : CalState → Bool
  | .c0High => false
  | .waitA => false
  | .c0Low => true
  | .waitB => true
  | .c1High => true
  | .waitC => true
  | .c1Low => true
  | .done => true

/-- From here on the minimum of channel 1 is recorded (R86, R90 d). -/
def lowSeen1 : CalState → Bool
  | .c0High => false
  | .waitA => false
  | .c0Low => false
  | .waitB => false
  | .c1High => false
  | .waitC => false
  | .c1Low => true
  | .done => true

/-- A finished record (R90 d). -/
structure RecordOrdered (s : State) : Prop where
  min_le_mid0 : s.cmin.c0 ≤ s.cmid.c0
  mid_le_max0 : s.cmid.c0 ≤ s.cmax.c0
  min_le_mid1 : s.cmin.c1 ≤ s.cmid.c1
  mid_le_max1 : s.cmid.c1 ≤ s.cmax.c1
  min_le_thr : s.cmin.c0 ≤ s.thr
  thr_le_max : s.thr ≤ s.cmax.c0

/-- The calibration invariants (R90 d, e). -/
structure CalibrationInv (s : State) : Prop where
  fresh_before_boot : s.engSt = .preboot → s.calState = .c0High
  min_le_max0 : lowSeen0 s.calState = true → s.cmin.c0 ≤ s.cmax.c0
  min_le_max1 : lowSeen1 s.calState = true → s.cmin.c1 ≤ s.cmax.c1
  stability_bound : calKind s.calState = .high ∨ calKind s.calState = .low →
    s.calCnt.toNat ≤ s.params.calThresh.val
  wait_bound : calKind s.calState = .wait → s.calCnt.toNat < s.params.calWait
  done_ordered : s.calState = .done → RecordOrdered s

/-- No overflow tick is lost along the trace (R66): no TICK_IN wraps the counter while `TOV0` is still
pending. -/
def noTickLost : List Instr → State → Bool
  | [], _ => true
  | i :: rest, s =>
    !(i == .tickIn && s.cnt0 == 0xFF#8 && s.tov0) &&
      match exec i s with
      | .next t => noTickLost rest t
      | .fault _ => true
      | .refused _ => true

/-- Every CAPTURE of the trace finds the pin of channel `c` high: none of them ends the pulse that is open
on it (R80). -/
def pulseStaysHigh (c : Ch) : List Instr → State → Bool
  | [], _ => true
  | i :: rest, s =>
    !(i == .capture && !level s.pins c) &&
      match exec i s with
      | .next t => pulseStaysHigh c rest t
      | .fault _ => true
      | .refused _ => true

/-- The operation is a PUBLISH on channel `c`. -/
def isPublishOn (c : Ch) : Instr → Bool
  | .publish c' _ => c' == c
  | _ => false

/-- The operation belongs to the mailbox protocol on channel `c`: a step of a publish or of a take, or
the start of a publish (R69 to R71). -/
def isMailboxStep (c : Ch) : Instr → Bool
  | .publish c' _ => c' == c
  | .pubStep c' => c' == c
  | .takeStep c' => c' == c
  | _ => false

/-- The operation is one by which calibration proceeds, starts or is cleared (R89). -/
def touchesCalibration : Instr → Bool
  | .calStep _ => true
  | .calSample _ _ => true
  | .reset => true
  | _ => false

/-- Every operation of the list is legal and none is RESET: a stretch of a trace between resets. -/
def noReset (l : List Instr) : Prop := ∀ i ∈ l, wellFormed i = true ∧ i ≠ .reset

/-- Prompt service is possible (R106): the generator runs, its overflow interrupt is enabled, interrupts
are unmasked and no publish is in flight. -/
structure PromptReady (s : State) : Prop where
  running : s.run = true
  unmasked : s.ie = true
  overflow_enabled : s.toie1 = true
  no_publish : intActive s = false

end Sys2Proof.Machine
end

