-- ==== Sys2Proof/Certificates/Slice0/Obligations.lean ====
section
/-! DEFINITION. The statements for the provers. Each docstring names the rule of spec/ it formalises. A
frame is written `t = { s with f := t.f, … }`: `t` and `s` agree in every field that is not listed, the
store and the model's own fields among them; beside it `NvmReadsSame s t` says of an operation that
stores nothing that every byte of the store reads as before. -/

open Sys2Proof Sys2Proof.Machine

/-! ### Encoding -/

/-- R58, last sentence: decoding the word of a legal operation gives it back, whatever follows. -/
def Obligations.DecodeOfEncodeIsTheInstruction : Prop :=
  ∀ (i : Instr) (rest : List Byte), wellFormed i = true → decodeOne (encode i ++ rest) = .op i rest

/-- R58, last sentence, and R56: whatever decodes is a legal operation, and the bytes read are exactly
its word, so no second word spells it. -/
def Obligations.DecodedBytesAreTheEncoding : Prop :=
  ∀ (bytes : List Byte) (i : Instr) (rest : List Byte),
    decodeOne bytes = .op i rest → wellFormed i = true ∧ bytes = encode i ++ rest

/-- R51, R58: words follow one another with no padding, and a stream of the words of legal operations
decodes to exactly those operations. -/
def Obligations.StreamOfWordsDecodesToItsOperations : Prop :=
  ∀ l : List Instr, (∀ i ∈ l, wellFormed i = true) → decodeStream (l.flatMap encode) = .ops l

/-- The encoding examples that close R55. -/
def Obligations.TableWordsSpellTheirOperations : Prop :=
  Spells .tickIn [0x02#8] ∧
  Spells (.pin 0b01#2) [0x20#8, 0x01#8] ∧
  Spells (.tryTake .ch1) [0x25#8, 0x01#8] ∧
  Spells (.nvmSet 12#8 0x9B#8) [0x40#8, 0x0C#8, 0x9B#8] ∧
  Spells (.calSample .ch0 1500#16) [0x61#8, 0x00#8, 0xDC#8, 0x05#8] ∧
  Spells (.xform 1500#16 1700#16) [0x81#8, 0xDC#8, 0x05#8, 0xA4#8, 0x06#8] ∧
  Spells (.setWidths 1600#16 1400#16) [0x80#8, 0x40#8, 0x06#8, 0x78#8, 0x05#8]

/-- A step runs the decoded instruction: where the bytes at the front of the stream decode to `i`, a step
is `exec i` with the stream moved past the word. The stream is the model's own field
(notes/assumptions/1.md). -/
def Obligations.StepRunsTheDecodedInstruction : Prop :=
  ∀ (s : State) (i : Instr) (rest : List Byte),
    wellFormed i = true → decodeOne s.stream = .op i rest →
      step s = exec i { s with stream := rest }

/-- R56, R120: bytes that spell no operation are refused by name, and so is the end of the stream. The
refusals and their names are the model's own (notes/assumptions/2.md, 5.md). -/
def Obligations.StepRefusesWhatSpellsNoOperation : Prop :=
  (∀ (s : State) (why : Illegal),
    decodeOne s.stream = .illegal why → step s = .refused (.illegalWord why)) ∧
  (∀ s : State, s.stream = [] → step s = .refused .streamFinished)

/-- R45, R51, R58: stepping through a stream of words performs the operations they spell, in order, and
nothing else: no operation reads or writes the stream itself, which is the model's own field
(notes/assumptions/1.md). -/
def Obligations.SteppingAStreamPerformsItsOperations : Prop :=
  ∀ (l : List Instr) (s : State) (rest : List Byte), (∀ i ∈ l, wellFormed i = true) →
    (Host.Core.run Sys2Proof.core l.length { s with stream := l.flatMap encode ++ rest } : Result) =
      execList l { s with stream := rest }

/-! ### Edge Timestamper -/

/-- R62, for every state: TICK_IN has no enabling condition. -/
def Obligations.TickInCountsAndFlagsTheWrap : Prop :=
  Spells .tickIn [0x02#8] ∧ agent .tickIn = .hw ∧
  ∀ s : State, ∃ t : State, exec .tickIn s = .next t ∧
    t.cnt0.toNat = (s.cnt0.toNat + 1) % 256 ∧
    t.tov0 = (s.tov0 || decide (s.cnt0.toNat = 255)) ∧
    t = { s with cnt0 := t.cnt0, tov0 := t.tov0 } ∧ NvmReadsSame s t

/-- R63: eligible, OVF0_SVC counts one overflow tick; otherwise it has no effect. -/
def Obligations.Ovf0SvcCountsOneOverflowTick : Prop :=
  Spells .ovf0Svc [0x04#8] ∧ agent .ovf0Svc = .irq ∧
  (∀ s : State, s.ie = true → s.toie0 = true → s.tov0 = true → intActive s = false →
    ∃ t : State, exec .ovf0Svc s = .next t ∧
      t.tov0 = false ∧ t.ticks.toNat = (s.ticks.toNat + 1) % 256 ∧ now t = now s ∧
      t = { s with tov0 := t.tov0, ticks := t.ticks } ∧ NvmReadsSame s t) ∧
  (∀ s : State, (s.ie = false ∨ s.toie0 = false ∨ s.tov0 = false ∨ intActive s = true) →
    exec .ovf0Svc s = .next s)

/-- R64, with the value of R61: `TS_RES` is `256·((TICKS + TOV0) mod 256) + CNT0`, and `TOV0` stays. -/
def Obligations.NowSamplesTheCorrectedTimestamp : Prop :=
  Spells .now [0x08#8] ∧ agent .now = .main ∧
  ∀ s : State, ∃ t : State, exec .now s = .next t ∧
    t.tsRes.toNat = 256 * ((s.ticks.toNat + s.tov0.toNat) % 256) + s.cnt0.toNat ∧
    t = { s with tsRes := t.tsRes } ∧ NvmReadsSame s t

/-- R65: along any stretch of a trace without RESET in which no overflow tick is lost, the timestamp
advances by exactly the number of TICK_INs, modulo 65536, however OVF0_SVC and everything else is
interleaved. -/
def Obligations.TimestampAdvancesByTheTicksCounted : Prop :=
  ∀ (l : List Instr) (s : State), noReset l → noTickLost l s = true →
    ∃ t : State, execList l s = .next t ∧
      (now t).toNat = ((now s).toNat + l.count .tickIn) % 65536

/-! ### Mailbox -/

/-- R69: PUBLISH sets the latch, and no mailbox register, unless a publish is in flight on that
channel. -/
def Obligations.PublishLatchesTheValue : Prop :=
  (∀ v : Word, Spells (.publish .ch0 v) [0x60#8, 0x00#8, lowByte v, highByte v]) ∧
  (∀ v : Word, Spells (.publish .ch1 v) [0x60#8, 0x01#8, lowByte v, highByte v]) ∧
  (∀ (c : Ch) (v : Word), agent (.publish c v) = .irq) ∧
  (∀ (c : Ch) (v : Word) (s : State), s.pubp.get c = .idle →
    ∃ t : State, exec (.publish c v) s = .next t ∧
      t.pubv = s.pubv.set c v ∧ t.pubp = s.pubp.set c .p1 ∧
      t = { s with pubv := t.pubv, pubp := t.pubp } ∧ NvmReadsSame s t) ∧
  (∀ (c : Ch) (v : Word) (s : State), s.pubp.get c ≠ .idle → exec (.publish c v) s = .next s)

/-- R70: the five publish steps, each on its own channel alone; with none in flight, no effect. The
condition does not mention `IE`. -/
def Obligations.PubStepPerformsTheNextStep : Prop :=
  Spells (.pubStep .ch0) [0x23#8, 0x00#8] ∧ Spells (.pubStep .ch1) [0x23#8, 0x01#8] ∧
  (∀ c : Ch, agent (.pubStep c) = .irq) ∧
  (∀ (c : Ch) (s : State), s.pubp.get c = .idle → exec (.pubStep c) s = .next s) ∧
  (∀ (c : Ch) (s : State), s.pubp.get c ≠ .idle →
    ∃ t : State, exec (.pubStep c) s = .next t ∧
      (s.pubp.get c = .p1 ∨ s.pubp.get c = .p5 →
        (t.mbSeq.get c).toNat = ((s.mbSeq.get c).toNat + 1) % 256 ∧
        t = { s with mbSeq := s.mbSeq.set c (t.mbSeq.get c), pubp := t.pubp }) ∧
      (s.pubp.get c = .p2 →
        lowByte (t.mbVal.get c) = lowByte (s.pubv.get c) ∧
        highByte (t.mbVal.get c) = highByte (s.mbVal.get c) ∧
        t = { s with mbVal := s.mbVal.set c (t.mbVal.get c), pubp := t.pubp }) ∧
      (s.pubp.get c = .p3 →
        lowByte (t.mbVal.get c) = lowByte (s.mbVal.get c) ∧
        highByte (t.mbVal.get c) = highByte (s.pubv.get c) ∧
        t = { s with mbVal := s.mbVal.set c (t.mbVal.get c), pubp := t.pubp }) ∧
      (s.pubp.get c = .p4 → t = { s with mbNe := s.mbNe.set c true, pubp := t.pubp }) ∧
      (s.pubp.get c = .p1 → t.pubp = s.pubp.set c .p2) ∧
      (s.pubp.get c = .p2 → t.pubp = s.pubp.set c .p3) ∧
      (s.pubp.get c = .p3 → t.pubp = s.pubp.set c .p4) ∧
      (s.pubp.get c = .p4 → t.pubp = s.pubp.set c .p5) ∧
      (s.pubp.get c = .p5 → t.pubp = s.pubp.set c .idle) ∧
      NvmReadsSame s t)

/-- R71: the six take steps, each on its own channel alone. -/
def Obligations.TakeStepPerformsTheNextStep : Prop :=
  Spells (.takeStep .ch0) [0x24#8, 0x00#8] ∧ Spells (.takeStep .ch1) [0x24#8, 0x01#8] ∧
  (∀ c : Ch, agent (.takeStep c) = .main) ∧
  ∀ (c : Ch) (s : State), ∃ t : State, exec (.takeStep c) s = .next t ∧
    (s.tkp.get c = .idle → (s.mbSeq.get c).toNat % 2 = 1 →
      t = { s with tks1 := s.tks1.set c (s.mbSeq.get c), tkok := s.tkok.set c false }) ∧
    (s.tkp.get c = .idle → (s.mbSeq.get c).toNat % 2 = 0 →
      t = { s with tks1 := s.tks1.set c (s.mbSeq.get c), tkp := s.tkp.set c .t2 }) ∧
    (s.tkp.get c = .t2 →
      lowByte (t.tkv.get c) = lowByte (s.mbVal.get c) ∧
      highByte (t.tkv.get c) = highByte (s.tkv.get c) ∧
      t = { s with tkv := s.tkv.set c (t.tkv.get c), tkp := s.tkp.set c .t3 }) ∧
    (s.tkp.get c = .t3 →
      lowByte (t.tkv.get c) = lowByte (s.tkv.get c) ∧
      highByte (t.tkv.get c) = highByte (s.mbVal.get c) ∧
      t = { s with tkv := s.tkv.set c (t.tkv.get c), tkp := s.tkp.set c .t4 }) ∧
    (s.tkp.get c = .t4 →
      t = { s with tkne := s.tkne.set c (s.mbNe.get c), tkp := s.tkp.set c .t5 }) ∧
    (s.tkp.get c = .t5 → s.tkne.get c = true → s.mbSeq.get c = s.tks1.get c →
      t = { s with tkp := s.tkp.set c .t6 }) ∧
    (s.tkp.get c = .t5 → s.tkne.get c = false ∨ s.mbSeq.get c ≠ s.tks1.get c →
      t = { s with tkok := s.tkok.set c false, tkp := s.tkp.set c .idle }) ∧
    (s.tkp.get c = .t6 →
      t = { s with
            mbNe := s.mbNe.set c false
            chv := s.chv.set c (s.tkv.get c)
            fresh := s.fresh.set c true
            tkok := s.tkok.set c true
            tkp := s.tkp.set c .idle }) ∧
    NvmReadsSame s t

/-- R72: TRY_TAKE is a whole take in one operation. -/
def Obligations.TryTakeIsAWholeTake : Prop :=
  Spells (.tryTake .ch0) [0x25#8, 0x00#8] ∧ Spells (.tryTake .ch1) [0x25#8, 0x01#8] ∧
  (∀ c : Ch, agent (.tryTake c) = .main) ∧
  (∀ (c : Ch) (s : State), s.tkp.get c ≠ .idle → exec (.tryTake c) s = .next s) ∧
  (∀ (c : Ch) (s : State), s.tkp.get c = .idle →
    ((s.mbSeq.get c).toNat % 2 = 1 →
      exec (.tryTake c) s =
        .next { s with tks1 := s.tks1.set c (s.mbSeq.get c), tkok := s.tkok.set c false }) ∧
    ((s.mbSeq.get c).toNat % 2 = 0 → s.mbNe.get c = false →
      exec (.tryTake c) s =
        .next { s with
                tks1 := s.tks1.set c (s.mbSeq.get c)
                tkv := s.tkv.set c (s.mbVal.get c)
                tkne := s.tkne.set c false
                tkok := s.tkok.set c false }) ∧
    ((s.mbSeq.get c).toNat % 2 = 0 → s.mbNe.get c = true →
      exec (.tryTake c) s =
        .next { s with
                tks1 := s.tks1.set c (s.mbSeq.get c)
                tkv := s.tkv.set c (s.mbVal.get c)
                tkne := s.tkne.set c true
                tkok := s.tkok.set c true
                chv := s.chv.set c (s.mbVal.get c)
                fresh := s.fresh.set c true
                mbNe := s.mbNe.set c false }))

/-- R74 and R141: from a complete mailbox with no publish and no take in progress, whatever way the steps
of takes and of up to 127 publishes on a channel are interleaved, the width held is the one held before,
the value that was in the slot, or one of the values published: never a mixture of two. -/
def Obligations.TakesNeverReturnATornValue : Prop :=
  ∀ (c : Ch) (s : State) (l : List Instr),
    SeqParity s → s.pubp.get c = .idle → s.tkp.get c = .idle →
    (∀ i ∈ l, isMailboxStep c i = true) → l.countP (isPublishOn c) ≤ 127 →
    ∃ t : State, execList l s = .next t ∧
      (t.chv.get c = s.chv.get c ∨ t.chv.get c = s.mbVal.get c ∨ .publish c (t.chv.get c) ∈ l)

/-- R140: a whole publish between the accept T5 and the clear T6 of a stepped take is never announced:
the take returns the older value, the newer stays in the slot with the flag down, and the next take
returns nothing. -/
def Obligations.PublishBetweenAcceptAndClearIsLost : Prop :=
  ∀ (c : Ch) (s : State) (v : Word),
    s.tkp.get c = .t6 → s.pubp.get c = .idle → (s.mbSeq.get c).toNat % 2 = 0 →
    ∃ t : State, execList (publishA c v ++ [.takeStep c]) s = .next t ∧
      t.chv.get c = s.tkv.get c ∧ t.tkok.get c = true ∧
      t.mbVal.get c = v ∧ t.mbNe.get c = false ∧
      ∃ u : State, exec (.tryTake c) t = .next u ∧
        u.tkok.get c = false ∧ u.chv.get c = s.tkv.get c

/-- R75: every step keeps the sequence parity invariant. -/
def Obligations.StepKeepsSequenceParity : Prop :=
  ∀ s t : State, SeqParity s → step s = .next t → SeqParity t

/-! ### Input Capture -/

/-- R76, for every state: PIN has no enabling condition. -/
def Obligations.PinDrivesTheLevels : Prop :=
  (∀ lv : BitVec 2, Spells (.pin lv) [0x20#8, BitVec.ofNat 8 lv.toNat]) ∧
  (∀ lv : BitVec 2, agent (.pin lv) = .env) ∧
  ∀ (lv : BitVec 2) (s : State), ∃ t : State, exec (.pin lv) s = .next t ∧
    t.pins = lv ∧ t.pcf = (s.pcf || decide (lv ≠ s.pins)) ∧
    t = { s with pins := t.pins, pcf := t.pcf } ∧ NvmReadsSame s t

/-- R77: eligible, CAPTURE samples both channels from one snapshot; otherwise it has no effect. -/
def Obligations.CaptureProcessesTheEdges : Prop :=
  Spells .capture [0x05#8] ∧ agent .capture = .irq ∧
  (∀ s : State, s.ie = true → s.pcie = true → s.pcf = true → intActive s = false →
    ∃ t : State, exec .capture s = .next t ∧ t.pcf = false ∧
      (∀ c : Ch, t.prev.get c = level s.pins c) ∧
      (∀ c : Ch, s.prev.get c = false → level s.pins c = true →
        t.ref.get c = now s ∧ t.pulseOpen.get c = true ∧
        t.pubv.get c = s.pubv.get c ∧ t.pubp.get c = .idle) ∧
      (∀ c : Ch, s.prev.get c = true → level s.pins c = false → s.pulseOpen.get c = true →
        (t.pubv.get c).toNat = ((now s).toNat + 65536 - (s.ref.get c).toNat) % 65536 ∧
        t.pubp.get c = .p1 ∧ t.pulseOpen.get c = false ∧ t.ref.get c = s.ref.get c) ∧
      (∀ c : Ch, s.prev.get c = level s.pins c ∨
          (s.prev.get c = true ∧ level s.pins c = false ∧ s.pulseOpen.get c = false) →
        t.ref.get c = s.ref.get c ∧ t.pulseOpen.get c = s.pulseOpen.get c ∧
        t.pubv.get c = s.pubv.get c ∧ t.pubp.get c = .idle) ∧
      t = { s with pcf := t.pcf, prev := t.prev, pulseOpen := t.pulseOpen, ref := t.ref,
                   pubv := t.pubv, pubp := t.pubp } ∧ NvmReadsSame s t) ∧
  (∀ s : State, (s.ie = false ∨ s.pcie = false ∨ s.pcf = false ∨ intActive s = true) →
    exec .capture s = .next s)

/-- R80: the width published at the falling edge is the number of TICK_INs between the CAPTURE that saw the
rise and the one that sees the fall, modulo 65536, if no overflow tick was lost between them, whatever
else happens between them: CAPTUREs for the other channel, publishes, takes, critical sections. -/
def Obligations.CapturedWidthIsTheTicksBetween : Prop :=
  ∀ (c : Ch) (s a b : State) (l : List Instr),
    eligible s .pinChange = true → s.prev.get c = false → level s.pins c = true →
    exec .capture s = .next a →
    noReset l → pulseStaysHigh c l a = true → noTickLost l a = true → execList l a = .next b →
    eligible b .pinChange = true → level b.pins c = false →
    ∃ t : State, exec .capture b = .next t ∧ t.pubp.get c = .p1 ∧
      (t.pubv.get c).toNat = l.count .tickIn % 65536

/-- R78: every step keeps `OPEN = PREV`. -/
def Obligations.StepKeepsOpenEqualToPrev : Prop :=
  ∀ s t : State, OpenIsPrev s → step s = .next t → OpenIsPrev t

/-! ### Calibration -/

/-- R82: enabled, CAL_STEP consumes the held width exactly as CAL_SAMPLE presents one (R83); otherwise
it has no effect. -/
def Obligations.CalStepConsumesTheHeldWidth : Prop :=
  Spells (.calStep .ch0) [0x26#8, 0x00#8] ∧ Spells (.calStep .ch1) [0x26#8, 0x01#8] ∧
  (∀ c : Ch, agent (.calStep c) = .main) ∧
  (∀ (c : Ch) (s : State), s.engSt = .active → s.mode = .calibrating → s.fresh.get c = true →
    ∃ t : State, exec (.calStep c) s = .next t ∧
      exec (.calSample c (s.chv.get c)) s = .next t ∧
      t.fresh = s.fresh.set c false ∧ t.chv = s.chv) ∧
  (∀ (c : Ch) (s : State),
    (s.engSt ≠ .active ∨ s.mode = .running ∨ s.fresh.get c = false) →
    exec (.calStep c) s = .next s)

/-- R83: enabled, CAL_SAMPLE is `CHV[ch] <- w; FRESH[ch] <- 1; CAL_STEP ch`; otherwise it has no
effect. A sample of a channel that is not active, or in `DONE`, changes `CHV` and `FRESH` alone (R81,
R88). -/
def Obligations.CalSampleInjectsAndConsumes : Prop :=
  (∀ w : Word, Spells (.calSample .ch0 w) [0x61#8, 0x00#8, lowByte w, highByte w]) ∧
  (∀ w : Word, Spells (.calSample .ch1 w) [0x61#8, 0x01#8, lowByte w, highByte w]) ∧
  (∀ (c : Ch) (w : Word), agent (.calSample c w) = .main) ∧
  (∀ (c : Ch) (w : Word) (s : State), s.engSt = .active → s.mode = .calibrating →
    ∃ t : State, exec (.calSample c w) s = .next t ∧
      exec (.calStep c) { s with chv := s.chv.set c w, fresh := s.fresh.set c true } = .next t ∧
      t.chv = s.chv.set c w ∧ t.fresh = s.fresh.set c false ∧
      (s.calState = .done ∨ c ≠ calActive s.calState →
        t = { s with chv := t.chv, fresh := t.fresh })) ∧
  (∀ (c : Ch) (w : Word) (s : State), (s.engSt ≠ .active ∨ s.mode = .running) →
    exec (.calSample c w) s = .next s)

/-- R84: a sample of the active channel in a HIGH state. -/
def Obligations.HighStateTracksTheMaximum : Prop :=
  ∀ (c : Ch) (w : Word) (s : State), s.engSt = .active → s.mode = .calibrating →
    (s.calState = .c0High ∧ c = .ch0 ∨ s.calState = .c1High ∧ c = .ch1) →
    ∃ t : State, exec (.calSample c w) s = .next t ∧
      t = { s with chv := s.chv.set c w, fresh := s.fresh.set c false, cmax := t.cmax,
                   calCnt := t.calCnt, calState := t.calState } ∧ NvmReadsSame s t ∧
      (w.toNat > (s.cmax.get c).toNat →
        t.cmax = s.cmax.set c w ∧ t.calCnt = 0#16 ∧ t.calState = s.calState) ∧
      (w.toNat ≤ (s.cmax.get c).toNat → s.calCnt.toNat + 1 ≤ s.params.calThresh.val →
        t.cmax = s.cmax ∧ t.calCnt.toNat = s.calCnt.toNat + 1 ∧ t.calState = s.calState) ∧
      (w.toNat ≤ (s.cmax.get c).toNat → s.calCnt.toNat + 1 > s.params.calThresh.val →
        t.cmax = s.cmax ∧ t.calCnt = 0#16 ∧
        t.calState = (match c with | .ch0 => .waitA | .ch1 => .waitC))

/-- R85: a sample of the active channel in a LOW state, but for the completion of `C1_LOW` (R87). -/
def Obligations.LowStateTracksTheMinimum : Prop :=
  ∀ (c : Ch) (w : Word) (s : State), s.engSt = .active → s.mode = .calibrating →
    (s.calState = .c0Low ∧ c = .ch0 ∨ s.calState = .c1Low ∧ c = .ch1) →
    (w.toNat < (s.cmin.get c).toNat →
      exec (.calSample c w) s = .next
        { s with chv := s.chv.set c w, fresh := s.fresh.set c false, cmin := s.cmin.set c w,
                 calCnt := 0#16 }) ∧
    (w.toNat ≥ (s.cmin.get c).toNat → s.calCnt.toNat + 1 ≤ s.params.calThresh.val →
      ∃ t : State, exec (.calSample c w) s = .next t ∧ t.calCnt.toNat = s.calCnt.toNat + 1 ∧
        t = { s with chv := s.chv.set c w, fresh := s.fresh.set c false, calCnt := t.calCnt }) ∧
    (w.toNat ≥ (s.cmin.get c).toNat → s.calCnt.toNat + 1 > s.params.calThresh.val →
      c = .ch0 →
      exec (.calSample c w) s = .next
        { s with chv := s.chv.set c w, fresh := s.fresh.set c false, calCnt := 0#16,
                 calState := .waitB })

/-- R86: a sample of the active channel in a WAIT state is discarded; the `CAL_WAIT`-th leaves the
state, and entering a LOW state sets the minimum to the maximum. -/
def Obligations.WaitStateDiscardsSamples : Prop :=
  ∀ (c : Ch) (w : Word) (s : State), s.engSt = .active → s.mode = .calibrating →
    (s.calState = .waitA ∧ c = .ch0 ∨ s.calState = .waitB ∧ c = .ch1 ∨
      s.calState = .waitC ∧ c = .ch1) →
    (s.calCnt.toNat + 1 < s.params.calWait →
      ∃ t : State, exec (.calSample c w) s = .next t ∧ t.calCnt.toNat = s.calCnt.toNat + 1 ∧
        t = { s with chv := s.chv.set c w, fresh := s.fresh.set c false, calCnt := t.calCnt }) ∧
    (s.calCnt.toNat + 1 ≥ s.params.calWait →
      (s.calState = .waitA →
        exec (.calSample c w) s = .next
          { s with chv := s.chv.set c w, fresh := s.fresh.set c false, calCnt := 0#16,
                   calState := .c0Low, cmin := s.cmin.set .ch0 s.cmax.c0 }) ∧
      (s.calState = .waitB →
        exec (.calSample c w) s = .next
          { s with chv := s.chv.set c w, fresh := s.fresh.set c false, calCnt := 0#16,
                   calState := .c1High }) ∧
      (s.calState = .waitC →
        exec (.calSample c w) s = .next
          { s with chv := s.chv.set c w, fresh := s.fresh.set c false, calCnt := 0#16,
                   calState := .c1Low, cmin := s.cmin.set .ch1 s.cmax.c1 }))

/-- R87, with the layout of R38 and the checksum of R39: the sample that completes `C1_LOW`. The premise
on the record is R90 (d). -/
def Obligations.FinishDerivesAndStoresTheRecord : Prop :=
  ∀ (w : Word) (s : State), s.engSt = .active → s.mode = .calibrating → s.calState = .c1Low →
    s.cmin.c1.toNat ≤ w.toNat → s.calCnt.toNat + 1 > s.params.calThresh.val →
    s.cmin.c0 ≤ s.cmax.c0 → s.cmin.c1 ≤ s.cmax.c1 → NvmCanonical s →
    ∃ t : State, exec (.calSample .ch1 w) s = .next t ∧
      t.calState = .done ∧ t.ind = true ∧ t.recValid = true ∧ t.calCnt = 0#16 ∧
      t.cmid.c0.toNat = s.cmin.c0.toNat + (s.cmax.c0.toNat - s.cmin.c0.toNat) / 2 ∧
      t.cmid.c1.toNat = s.cmin.c1.toNat + (s.cmax.c1.toNat - s.cmin.c1.toNat) / 2 ∧
      t.thr.toNat = s.cmin.c0.toNat + (s.cmax.c0.toNat - s.cmin.c0.toNat) / 16 ∧
      nvmRead t.nvm 0 = lowByte s.cmin.c0 ∧ nvmRead t.nvm 1 = highByte s.cmin.c0 ∧
      nvmRead t.nvm 2 = lowByte s.cmax.c0 ∧ nvmRead t.nvm 3 = highByte s.cmax.c0 ∧
      nvmRead t.nvm 4 = lowByte t.cmid.c0 ∧ nvmRead t.nvm 5 = highByte t.cmid.c0 ∧
      nvmRead t.nvm 6 = lowByte s.cmin.c1 ∧ nvmRead t.nvm 7 = highByte s.cmin.c1 ∧
      nvmRead t.nvm 8 = lowByte s.cmax.c1 ∧ nvmRead t.nvm 9 = highByte s.cmax.c1 ∧
      nvmRead t.nvm 10 = lowByte t.cmid.c1 ∧ nvmRead t.nvm 11 = highByte t.cmid.c1 ∧
      ChecksumAgrees t ∧
      t = { s with chv := s.chv.set .ch1 w, fresh := s.fresh.set .ch1 false, calState := t.calState,
                   calCnt := t.calCnt, cmid := t.cmid, thr := t.thr, recValid := t.recValid,
                   ind := t.ind, nvm := t.nvm }

/-- R87, R109, R110, R114 together: the record that Finish stores survives RESET and is loaded by the
next `BOOT 0` as it was. For a minimum above its maximum, which is not reached, this rests on the model's
reading of Finish's subtraction (notes/assumptions/8.md). -/
def Obligations.StoredRecordIsReloadedAfterReset : Prop :=
  ∀ (w : Word) (s t : State), isCalibrating s = true → s.calState = .c1Low →
    s.cmin.c1 ≤ w → s.calCnt.toNat + 1 > s.params.calThresh.val → NvmCanonical s →
    exec (.calSample .ch1 w) s = .next t →
    ∃ u : State, execList [.reset, .boot false] t = .next u ∧
      u.engSt = .active ∧ u.mode = .running ∧ u.recValid = true ∧ u.flt = 0#3 ∧
      u.cmin = s.cmin ∧ u.cmax = s.cmax ∧ u.cmid = t.cmid ∧ u.thr = t.thr

/-- R89: no operation but CAL_STEP, CAL_SAMPLE and RESET changes the calibration state or its counter:
with no samples the machine stays where it is. -/
def Obligations.OnlySamplesMoveCalibration : Prop :=
  ∀ (i : Instr) (s t : State), touchesCalibration i = false → exec i s = .next t →
    t.calState = s.calState ∧ t.calCnt = s.calCnt ∧ t.ind = s.ind

/-- R90 (a), (b), (f): between BOOT and RESET the recorded maximum never decreases, the minimum never
increases once the LOW state of its channel has begun, and `CAL_STATE` stays or moves one forward. -/
def Obligations.CalibrationMovesForwardOnly : Prop :=
  ∀ (i : Instr) (s t : State), i ≠ .reset → (∀ j : Bool, i ≠ .boot j) → exec i s = .next t →
    (∀ c : Ch, s.cmax.get c ≤ t.cmax.get c) ∧
    (lowSeen0 s.calState = true → t.cmin.c0 ≤ s.cmin.c0) ∧
    (lowSeen1 s.calState = true → t.cmin.c1 ≤ s.cmin.c1) ∧
    (t.calState = s.calState ∨ t.calState = calNext s.calState)

/-- R90 (d), (e): every step keeps the calibration invariants. -/
def Obligations.StepKeepsCalibrationBounds : Prop :=
  ∀ s t : State, CalibrationInv s → step s = .next t → CalibrationInv t

/-! ### Channel Transform -/

/-- R91: the function Transform, in mathematical integers. -/
def Obligations.TransformMixesAndClamps : Prop :=
  ∀ (s : State) (p q : Word),
    let h : Int := ((q.toNat : Int) - s.cmid.c1.toNat).tdiv 2
    let a : Int := if p.toNat < s.thr.toNat then p.toNat else p.toNat + h
    let b : Int := if p.toNat < s.thr.toNat then p.toNat else p.toNat - h
    let lo : Int := s.cmin.c0.toNat
    let hi : Int := s.cmax.c0.toNat
    ((transformOf s p q).1.toNat : Int) = (if a < lo then lo else if a > hi then hi else a) ∧
    ((transformOf s p q).2.toNat : Int) = (if b < lo then lo else if b > hi then hi else b)

/-- R94 (b), (c), (f): for an ordered record the outputs stay in the primary channel's range, below the
threshold both are the clamped primary, and mirrored secondaries swap the outputs. -/
def Obligations.TransformIsBoundedAndAntisymmetric : Prop :=
  ∀ (s : State) (p : Word), s.cmin.c0 ≤ s.cmax.c0 →
    (∀ q : Word,
      s.cmin.c0 ≤ (transformOf s p q).1 ∧ (transformOf s p q).1 ≤ s.cmax.c0 ∧
      s.cmin.c0 ≤ (transformOf s p q).2 ∧ (transformOf s p q).2 ≤ s.cmax.c0) ∧
    (∀ q : Word, p < s.thr → (transformOf s p q).1 = (transformOf s p q).2 ∧
      (s.cmin.c0 ≤ p → p ≤ s.cmax.c0 → (transformOf s p q).1 = p)) ∧
    (∀ q q' : Word, q.toNat + q'.toNat = 2 * s.cmid.c1.toNat →
      (transformOf s p q).1 = (transformOf s p q').2)

/-- R92: MIX, with SetW (R102). -/
def Obligations.MixTransformsTheFreshWidths : Prop :=
  Spells .mix [0x0B#8] ∧ agent .mix = .main ∧
  (∀ s : State, s.engSt = .active → s.mode = .running → s.fresh.c0 = true → s.fresh.c1 = true →
    ∃ t : State, exec .mix s = .next t ∧ t.fresh.c0 = false ∧ t.fresh.c1 = false ∧
      t = { s with fresh := t.fresh, nw := t.nw, flt := t.flt } ∧ NvmReadsSame s t ∧
      ((transformOf s s.chv.c0 s.chv.c1).1.toNat + (transformOf s s.chv.c0 s.chv.c1).2.toNat ≤
          Config.outPeriod →
        t.nw.c0 = (transformOf s s.chv.c0 s.chv.c1).1 ∧
        t.nw.c1 = (transformOf s s.chv.c0 s.chv.c1).2 ∧ t.flt = s.flt) ∧
      ((transformOf s s.chv.c0 s.chv.c1).1.toNat + (transformOf s s.chv.c0 s.chv.c1).2.toNat >
          Config.outPeriod →
        t.nw = s.nw ∧ t.flt = s.flt ||| 0b100#3)) ∧
  (∀ s : State, (s.engSt ≠ .active ∨ s.mode = .calibrating ∨ s.fresh.c0 = false ∨
      s.fresh.c1 = false) → exec .mix s = .next s)

/-- R93: XFORM is `CHV <- [p, s]; FRESH <- [1, 1]; MIX` as one operation. -/
def Obligations.XformTransformsImmediateWidths : Prop :=
  (∀ p q : Word, Spells (.xform p q) [0x81#8, lowByte p, highByte p, lowByte q, highByte q]) ∧
  (∀ p q : Word, agent (.xform p q) = .main) ∧
  (∀ (p q : Word) (s : State), s.engSt = .active → s.mode = .running →
    ∃ t : State, exec (.xform p q) s = .next t ∧
      exec .mix { s with chv := { c0 := p, c1 := q }, fresh := { c0 := true, c1 := true } } =
        .next t ∧
      t.chv.c0 = p ∧ t.chv.c1 = q ∧ t.fresh.c0 = false ∧ t.fresh.c1 = false ∧
      t = { s with chv := t.chv, fresh := t.fresh, nw := t.nw, flt := t.flt } ∧
      ((transformOf s p q).1.toNat + (transformOf s p q).2.toNat ≤ Config.outPeriod →
        t.nw.c0 = (transformOf s p q).1 ∧ t.nw.c1 = (transformOf s p q).2 ∧ t.flt = s.flt) ∧
      ((transformOf s p q).1.toNat + (transformOf s p q).2.toNat > Config.outPeriod →
        t.nw = s.nw ∧ t.flt = s.flt ||| 0b100#3)) ∧
  (∀ (p q : Word) (s : State), (s.engSt ≠ .active ∨ s.mode = .calibrating) →
    exec (.xform p q) s = .next s)

/-! ### Output Generator -/

/-- R96, for every state: TICK_OUT has no enabling condition. -/
def Obligations.TickOutCountsAndFlags : Prop :=
  Spells .tickOut [0x03#8] ∧ agent .tickOut = .hw ∧
  ∀ s : State, ∃ t : State, exec .tickOut s = .next t ∧
    t.tcnt1.toNat = (s.tcnt1.toNat + 1) % 256 ∧
    t.tov1 = (s.tov1 || decide (t.tcnt1.toNat = 0)) ∧
    t.ocf1 = (s.ocf1 || decide (t.tcnt1 = s.ocr1)) ∧
    (t.tcnt1.toNat = 0 ∧ t.tcnt1 = s.ocr1 ∧ s.run = true → t.flt = s.flt ||| 0b010#3) ∧
    (t.tcnt1.toNat ≠ 0 ∨ t.tcnt1 ≠ s.ocr1 ∨ s.run = false → t.flt = s.flt) ∧
    t = { s with tcnt1 := t.tcnt1, tov1 := t.tov1, ocf1 := t.ocf1, flt := t.flt } ∧
    NvmReadsSame s t

/-- R100: eligible, OVF1_SVC counts the high byte down and arms the compare; otherwise it has no
effect. -/
def Obligations.Ovf1SvcCountsDownAndArms : Prop :=
  Spells .ovf1Svc [0x06#8] ∧ agent .ovf1Svc = .irq ∧
  (∀ s : State, s.ie = true → s.toie1 = true → s.tov1 = true → intActive s = false →
    ∃ t : State, exec .ovf1Svc s = .next t ∧ t.tov1 = false ∧
      t.hi1.toNat = s.hi1.toNat - 1 ∧
      (s.hi1.toNat = 1 → t.ocf1 = false ∧ t.ocie1 = true) ∧
      (s.hi1.toNat ≠ 1 → t.ocf1 = s.ocf1 ∧ t.ocie1 = s.ocie1) ∧
      t = { s with tov1 := t.tov1, hi1 := t.hi1, ocf1 := t.ocf1, ocie1 := t.ocie1 } ∧
      NvmReadsSame s t) ∧
  (∀ s : State, (s.ie = false ∨ s.toie1 = false ∨ s.tov1 = false ∨ intActive s = true) →
    exec .ovf1Svc s = .next s)

/-- R97: Program(D) keeps the compare value at least the margin away from the wrap on both sides, and
counter, compare and high byte together time exactly `D` ticks. -/
def Obligations.ProgramTimesTheStageBeyondTheMargin : Prop :=
  ∀ (d : Word) (s : State), d ≠ 0#16 →
    let t := program d s
    let m := s.params.outMargin
    ((lowByte d).toNat ≥ m → t.tcnt1.toNat = 0 ∧ t.ocr1.toNat = (lowByte d).toNat) ∧
    ((lowByte d).toNat < m → t.tcnt1.toNat = m ∧ t.ocr1.toNat = (lowByte d).toNat + m) ∧
    t.hi1 = highByte d ∧ t.tov1 = false ∧ t.ocf1 = false ∧
    t.ocie1 = decide ((highByte d).toNat = 0) ∧
    m ≤ t.ocr1.toNat ∧ t.tcnt1.toNat ≤ t.ocr1.toNat ∧
    d.toNat = 256 * t.hi1.toNat + t.ocr1.toNat - t.tcnt1.toNat ∧
    t = { s with tcnt1 := t.tcnt1, ocr1 := t.ocr1, hi1 := t.hi1, tov1 := t.tov1, ocf1 := t.ocf1,
                 ocie1 := t.ocie1 }

/-- R98, R99: `EnterStage(s)` opens the stage, and either ends it at once by `Expire(s)`, where its
duration is 0, or programs the timer for it; `Expire(s)` closes the stage and enters the next one. The
bound that the model puts on the recursion (notes/assumptions/10.md) is never felt. -/
def Obligations.EnterStageAndExpireRecurse : Prop :=
  (∀ (st : Stage) (s : State),
    enterStage stageDepth st s =
      if (duration st (openStage st s)).toNat = 0 then
        expire st { openStage st s with ocie1 := false }
      else program (duration st (openStage st s)) (openStage st s)) ∧
  (∀ (st : Stage) (s : State), expire st s = enterStage stageDepth st.next (closeStage st s)) ∧
  (∀ s : State, openStage .stage0 s =
    { s with stage := .stage0, w := s.nw, out := { c0 := true, c1 := s.out.c1 } }) ∧
  (∀ s : State, openStage .stage1 s = { s with stage := .stage1 } ∧
    openStage .stage2 s = { s with stage := .stage2 }) ∧
  (∀ s : State, closeStage .stage0 s =
    { s with out := { c0 := false, c1 := s.ch1En || s.out.c1 } }) ∧
  (∀ s : State, closeStage .stage1 s = { s with out := { c0 := s.out.c0, c1 := false } } ∧
    closeStage .stage2 s = { s with outDone := true }) ∧
  (∀ s : State, WidthsFit s →
    duration .stage0 s = s.w.c0 ∧ duration .stage1 s = s.w.c1 ∧
    (duration .stage2 s).toNat + s.w.c0.toNat + s.w.c1.toNat = Config.outPeriod)

/-- R101, R99, R98: eligible, CMP1_SVC ends the stage and programs the next one of non-zero duration;
otherwise it has no effect. The three `next stage` clauses say which, with its pins, where that stage
itself is not of zero length; the last clauses hold in every case, zero-length stages included. -/
def Obligations.Cmp1SvcEndsTheStage : Prop :=
  Spells .cmp1Svc [0x07#8] ∧ agent .cmp1Svc = .irq ∧
  (∀ s : State, s.ie = true → s.ocie1 = true → s.ocf1 = true → intActive s = false →
    ∃ t : State, exec .cmp1Svc s = .next t ∧
      t = expire s.stage { s with ocf1 := false, ocie1 := false } ∧
      (s.stage = .stage0 → s.w.c1 ≠ 0#16 →
        t.stage = .stage1 ∧ t.out.c0 = false ∧ t.out.c1 = (s.ch1En || s.out.c1) ∧
        t.outDone = s.outDone ∧ t.w = s.w) ∧
      (s.stage = .stage1 → s.w.c0.toNat + s.w.c1.toNat < Config.outPeriod →
        t.stage = .stage2 ∧ t.out.c0 = s.out.c0 ∧ t.out.c1 = false ∧
        t.outDone = s.outDone ∧ t.w = s.w) ∧
      (s.stage = .stage2 → s.nw.c0 ≠ 0#16 →
        t.stage = .stage0 ∧ t.out.c0 = true ∧ t.out.c1 = s.out.c1 ∧
        t.outDone = true ∧ t.w = s.nw) ∧
      duration t.stage t ≠ 0#16 ∧ program (duration t.stage t) t = t ∧
      t = { s with stage := t.stage, w := t.w, out := t.out, outDone := t.outDone,
                   tcnt1 := t.tcnt1, ocr1 := t.ocr1, tov1 := t.tov1, ocf1 := t.ocf1,
                   hi1 := t.hi1, ocie1 := t.ocie1 } ∧ NvmReadsSame s t) ∧
  (∀ s : State, (s.ie = false ∨ s.ocie1 = false ∨ s.ocf1 = false ∨ intActive s = true) →
    exec .cmp1Svc s = .next s)

/-- R102: SET_WIDTHS requests both widths, or sets the fault WidthRange and changes nothing else. -/
def Obligations.SetWidthsRequestsBothWidths : Prop :=
  (∀ a b : Word, Spells (.setWidths a b) [0x80#8, lowByte a, highByte a, lowByte b, highByte b]) ∧
  (∀ a b : Word, agent (.setWidths a b) = .main) ∧
  (∀ (a b : Word) (s : State), s.engSt = .active → s.mode = .running →
    (a.toNat + b.toNat ≤ Config.outPeriod →
      exec (.setWidths a b) s = .next { s with nw := { c0 := a, c1 := b } }) ∧
    (a.toNat + b.toNat > Config.outPeriod →
      exec (.setWidths a b) s = .next { s with flt := s.flt ||| 0b100#3 })) ∧
  (∀ (a b : Word) (s : State), (s.engSt ≠ .active ∨ s.mode = .calibrating) →
    exec (.setWidths a b) s = .next s)

/-- R103 and R105, for every state: OUT_CFG and OUT_POLL have no enabling condition. -/
def Obligations.OutCfgAndOutPollAct : Prop :=
  Spells (.outCfg false) [0x22#8, 0x00#8] ∧ Spells (.outCfg true) [0x22#8, 0x01#8] ∧
  Spells .outPoll [0x0D#8] ∧ (∀ e : Bool, agent (.outCfg e) = .main) ∧ agent .outPoll = .main ∧
  (∀ (e : Bool) (s : State), exec (.outCfg e) s = .next { s with ch1En := e }) ∧
  (∀ s : State, exec .outPoll s = .next { s with pollRes := s.outDone, outDone := false })

/-- R104: enabled, OUT_START starts the generator in the first stage of non-zero duration; otherwise it
has no effect. It does not need `IE`. -/
def Obligations.OutStartStartsTheGenerator : Prop :=
  Spells .outStart [0x0C#8] ∧ agent .outStart = .main ∧
  (∀ s : State, s.engSt = .active → s.mode = .running → s.run = false → WidthsFit s →
    ∃ t : State, exec .outStart s = .next t ∧ t.run = true ∧ t.toie1 = true ∧ t.w = s.nw ∧
      (s.nw.c0 ≠ 0#16 → t.stage = .stage0 ∧ t.out.c0 = true ∧ t.out.c1 = s.out.c1) ∧
      (s.nw.c0 = 0#16 → s.nw.c1 ≠ 0#16 →
        t.stage = .stage1 ∧ t.out.c0 = false ∧ t.out.c1 = (s.ch1En || s.out.c1)) ∧
      (s.nw.c0 = 0#16 → s.nw.c1 = 0#16 →
        t.stage = .stage2 ∧ t.out.c0 = false ∧ t.out.c1 = false) ∧
      program (duration t.stage t) t = t ∧
      t = { s with run := t.run, toie1 := t.toie1, stage := t.stage, w := t.w, out := t.out,
                   tcnt1 := t.tcnt1, ocr1 := t.ocr1, tov1 := t.tov1, ocf1 := t.ocf1,
                   hi1 := t.hi1, ocie1 := t.ocie1 } ∧ NvmReadsSame s t) ∧
  (∀ s : State, (s.engSt ≠ .active ∨ s.mode = .calibrating ∨ s.run = true) →
    exec .outStart s = .next s)

/-- R107, R95, R29: every step keeps the generator's invariant; in particular `FLT[1]` stays 0. -/
def Obligations.StepKeepsGlitchFreedom : Prop :=
  ∀ s t : State, GeneratorInv s → step s = .next t → GeneratorInv t

/-- R106, one stage: a stage just programmed for `d` ticks, promptly served, shows the same stage and
pins for the first `d − 1` ticks and is expired by the `d`-th, with no hazard on the way. -/
def Obligations.StageLastsExactlyItsDuration : Prop :=
  ∀ (d : Word) (s : State), d ≠ 0#16 → PromptReady s →
    (∀ n : Nat, n < d.toNat → ∃ t : State, execList (runOut n) (program d s) = .next t ∧
      t = { s with tcnt1 := t.tcnt1, ocr1 := t.ocr1, hi1 := t.hi1, tov1 := t.tov1, ocf1 := t.ocf1,
                   ocie1 := t.ocie1 }) ∧
    execList (runOut d.toNat) (program d s) = .next (expire s.stage (program d s))

/-- R106, the whole period: from OUT_START under prompt service, `OUT[0]` is high for exactly the first
`W[0]` ticks, then `OUT[1]`, if enabled, for exactly `W[1]` ticks, and the period completes at exactly
`OUT_PERIOD` ticks and not before. -/
def Obligations.PeriodIsExactUnderPromptService : Prop :=
  ∀ s : State, isRunning s = true → s.run = false → s.ie = true → intActive s = false →
    WidthsFit s → GeneratorInv s →
    (∀ n : Nat, n < Config.outPeriod →
      ∃ t : State, execList (.outStart :: runOut n) s = .next t ∧
        t.out.c0 = decide (n < s.nw.c0.toNat) ∧
        t.out.c1 = (s.ch1En && decide (s.nw.c0.toNat ≤ n ∧ n < s.nw.c0.toNat + s.nw.c1.toNat)) ∧
        t.outDone = s.outDone ∧ t.flt = s.flt) ∧
    (∃ t : State, execList (.outStart :: runOut Config.outPeriod) s = .next t ∧
      t.outDone = true ∧ t.flt = s.flt ∧ t.w = s.nw)

/-- R98, R102: every step keeps both pairs of widths within the period, so that the idle remainder of
R95 is never negative. -/
def Obligations.StepKeepsWidthsWithinThePeriod : Prop :=
  ∀ s t : State, WidthsFit s → step s = .next t → WidthsFit t

/-- R108: the widths of the current period change only where a period starts, which is inside a CMP1_SVC
that ends Stage2 (the stages left of the old period have no length) or at OUT_START, and only to the
widths requested; the requested widths change only by SetW. -/
def Obligations.WidthsLatchAtThePeriodBoundary : Prop :=
  ∀ (i : Instr) (s t : State), i ≠ .reset → exec i s = .next t →
    (t.w ≠ s.w → (i = .cmp1Svc ∨ i = .outStart) ∧ t.w = s.nw) ∧
    (t.w ≠ s.w → i = .cmp1Svc →
      t.outDone = true ∧
      (s.stage = .stage0 → duration .stage1 s = 0#16 ∧ duration .stage2 s = 0#16) ∧
      (s.stage = .stage1 → duration .stage2 s = 0#16)) ∧
    (t.w ≠ s.w → i = .outStart → s.run = false ∧ t.run = true) ∧
    (t.nw ≠ s.nw → i = .mix ∨ (∃ a b : Word, i = .setWidths a b) ∨ ∃ p q : Word, i = .xform p q)

/-! ### System operations, faults, contexts -/

/-- R109, with the table of R35 written out: RESET writes every register, in every state, and leaves NVM;
the machine at power-on has the same values. The last two fields are the model's own
(notes/assumptions/3.md, 1.md). -/
def Obligations.ResetWritesEveryRegister : Prop :=
  Spells .reset [0x01#8] ∧ agent .reset = .env ∧ exec .reset State.reset = .next State.reset ∧
  ∀ s : State, ∃ t : State, exec .reset s = .next t ∧ NvmReadsSame s t ∧
    t =
      { cnt0 := 0#8, tov0 := false, ticks := 0#8, pins := 0#2, pcf := false
        prev := { c0 := false, c1 := false }, pulseOpen := { c0 := false, c1 := false }
        ref := { c0 := 0#16, c1 := 0#16 }, mbVal := { c0 := 0#16, c1 := 0#16 }
        mbSeq := { c0 := 0#8, c1 := 0#8 }, mbNe := { c0 := false, c1 := false }
        pubv := { c0 := 0#16, c1 := 0#16 }, pubp := { c0 := .idle, c1 := .idle }
        tkp := { c0 := .idle, c1 := .idle }, tks1 := { c0 := 0#8, c1 := 0#8 }
        tkv := { c0 := 0#16, c1 := 0#16 }, tkne := { c0 := false, c1 := false }
        tkok := { c0 := false, c1 := false }, chv := { c0 := 0#16, c1 := 0#16 }
        fresh := { c0 := false, c1 := false }, tsRes := 0#16, pollRes := false
        calState := .c0High, calCnt := 0#16, cmin := { c0 := 0#16, c1 := 0#16 }
        cmax := { c0 := 0#16, c1 := 0#16 }, cmid := { c0 := 0#16, c1 := 0#16 }, thr := 0#16
        recValid := false, ind := false, mode := .running, engSt := .preboot, flt := 0#3
        tcnt1 := 0#8, ocr1 := 0#8, tov1 := false, ocf1 := false, hi1 := 0#8, stage := .stage0
        run := false, w := { c0 := 0#16, c1 := 0#16 }, nw := { c0 := 0#16, c1 := 0#16 }
        ch1En := true, outDone := false, out := { c0 := false, c1 := false }, ie := false
        pcie := false, toie0 := false, toie1 := false, ocie1 := false
        nvm := s.nvm, params := s.params, stream := s.stream }

/-- R110, R114, R117: BOOT is effective once; `BOOT 1` calibrates without reading the store; `BOOT 0`
loads a record whose checksum is right, and halts with ChecksumMismatch on any other. -/
def Obligations.BootDecidesTheMode : Prop :=
  Spells (.boot false) [0x21#8, 0x00#8] ∧ Spells (.boot true) [0x21#8, 0x01#8] ∧
  (∀ j : Bool, agent (.boot j) = .main) ∧
  (∀ (j : Bool) (s : State), s.engSt ≠ .preboot → exec (.boot j) s = .next s) ∧
  (∀ s : State, s.engSt = .preboot →
    exec (.boot true) s = .next
      { s with mode := .calibrating, engSt := .active, ie := true, pcie := true, toie0 := true }) ∧
  (∀ s : State, s.engSt = .preboot → ChecksumAgrees s →
    ∃ t : State, exec (.boot false) s = .next t ∧
      t.mode = .running ∧ t.engSt = .active ∧ t.ie = true ∧ t.pcie = true ∧ t.toie0 = true ∧
      t.recValid = true ∧
      lowByte t.cmin.c0 = nvmRead s.nvm 0 ∧ highByte t.cmin.c0 = nvmRead s.nvm 1 ∧
      lowByte t.cmax.c0 = nvmRead s.nvm 2 ∧ highByte t.cmax.c0 = nvmRead s.nvm 3 ∧
      lowByte t.cmid.c0 = nvmRead s.nvm 4 ∧ highByte t.cmid.c0 = nvmRead s.nvm 5 ∧
      lowByte t.cmin.c1 = nvmRead s.nvm 6 ∧ highByte t.cmin.c1 = nvmRead s.nvm 7 ∧
      lowByte t.cmax.c1 = nvmRead s.nvm 8 ∧ highByte t.cmax.c1 = nvmRead s.nvm 9 ∧
      lowByte t.cmid.c1 = nvmRead s.nvm 10 ∧ highByte t.cmid.c1 = nvmRead s.nvm 11 ∧
      t.thr.toNat =
        (t.cmin.c0.toNat + (t.cmax.c0.toNat + 65536 - t.cmin.c0.toNat) % 65536 / 16) % 65536 ∧
      t = { s with mode := t.mode, engSt := t.engSt, ie := t.ie, pcie := t.pcie, toie0 := t.toie0,
                   recValid := t.recValid, cmin := t.cmin, cmax := t.cmax, cmid := t.cmid,
                   thr := t.thr } ∧ NvmReadsSame s t) ∧
  (∀ s : State, s.engSt = .preboot → ¬ChecksumAgrees s →
    exec (.boot false) s = .next
      { s with mode := .running, engSt := .halted, flt := s.flt ||| 0b001#3 })

/-- R111, R112: IRQ_MASK and IRQ_UNMASK write `IE` in `ACTIVE`, and have no effect otherwise. -/
def Obligations.MaskAndUnmaskWriteIE : Prop :=
  Spells .irqMask [0x09#8] ∧ Spells .irqUnmask [0x0A#8] ∧
  agent .irqMask = .main ∧ agent .irqUnmask = .main ∧
  (∀ s : State, s.engSt = .active →
    exec .irqMask s = .next { s with ie := false } ∧
    exec .irqUnmask s = .next { s with ie := true }) ∧
  (∀ s : State, s.engSt ≠ .active →
    exec .irqMask s = .next s ∧ exec .irqUnmask s = .next s)

/-- R113, R44: NVM_SET writes one byte of the store, in every engine state, and nothing else. The last
clause is the model's own: an offset above 12, which no word spells (R56), faults
(notes/assumptions/6.md). -/
def Obligations.NvmSetWritesOneByte : Prop :=
  (∀ i b : Byte, i.toNat ≤ 12 → Spells (.nvmSet i b) [0x40#8, i, b]) ∧
  (∀ i b : Byte, agent (.nvmSet i b) = .env) ∧
  (∀ (a : Fin 13) (b : Byte) (s : State), NvmCanonical s →
    ∃ t : State, exec (.nvmSet (BitVec.ofNat 8 a.val) b) s = .next t ∧
      nvmRead t.nvm a = b ∧
      (∀ x : Fin 13, x ≠ a → nvmRead t.nvm x = nvmRead s.nvm x) ∧
      t = { s with nvm := t.nvm }) ∧
  (∀ (i b : Byte) (s : State), i.toNat > 12 →
    exec (.nvmSet i b) s = .fault (.nvmOffsetAbsent i))

/-- The store keeps its one canonical form under every step. The form is the model's own representation
of the 13 bytes of R37 (notes/assumptions/4.md). -/
def Obligations.StepKeepsTheStoreCanonical : Prop :=
  ∀ s t : State, NvmCanonical s → step s = .next t → NvmCanonical t

/-- R115, R134, R104: every step keeps the engine's invariant. -/
def Obligations.StepKeepsEngineStates : Prop :=
  ∀ s t : State, EngineInv s → step s = .next t → EngineInv t

/-- R115: whatever happens without RESET, a halted engine stays halted and inert: masked, stopped, both
outputs low, the indicator off, the fault bit set. -/
def Obligations.HaltedStaysInertUntilReset : Prop :=
  ∀ (l : List Instr) (s : State), noReset l → EngineInv s → s.engSt = .halted →
    ∃ t : State, execList l s = .next t ∧
      t.engSt = .halted ∧ Inert t ∧ t.mode = .running ∧
      hasFault t.flt .checksumMismatch = true ∧ t.nw = s.nw ∧ t.ticks = s.ticks ∧ t.prev = s.prev

/-- Every invariant above holds right after reset (R35, R132). Two things in `State.reset` are the model's
choice: its store lists nothing (notes/assumptions/4.md), which the canonical form is about, and its
parameters are those of TP1 (notes/assumptions/3.md), which the calibration bounds are about. -/
def Obligations.InvariantsHoldAtReset : Prop :=
  SeqParity State.reset ∧ OpenIsPrev State.reset ∧ WidthsFit State.reset ∧
  GeneratorInv State.reset ∧ EngineInv State.reset ∧ CalibrationInv State.reset ∧
  NvmCanonical State.reset

/-- R116, R25: fault bits are sticky, cleared only by RESET, and read by no rule: with any other contents
of `FLT` an operation does the same to every other field and sets the same bits. -/
def Obligations.FaultBitsAreStickyAndUnread : Prop :=
  ∀ (i : Instr) (s t : State), i ≠ .reset → exec i s = .next t →
    ∃ raised : BitVec 3, t.flt = s.flt ||| raised ∧
      ∀ f : BitVec 3, exec i { s with flt := f } = .next { t with flt := f ||| raised }

/-- R34: what the operations of each agent write, RESET left aside. OUT_START writes the output registers
once only, where the generator does not run yet, and under the generator's invariant
(`StepKeepsGlitchFreedom`) no output interrupt is enabled before it. -/
def Obligations.EachAgentWritesItsOwnRegisters : Prop :=
  ∀ (i : Instr) (s t : State), i ≠ .reset → exec i s = .next t →
    (agent i = .hw →
      t = { s with cnt0 := t.cnt0, tov0 := t.tov0, tcnt1 := t.tcnt1, tov1 := t.tov1,
                   ocf1 := t.ocf1, flt := t.flt } ∧
      (s.tov0 = true → t.tov0 = true) ∧ (s.tov1 = true → t.tov1 = true) ∧
      (s.ocf1 = true → t.ocf1 = true) ∧ (t.flt = s.flt ∨ t.flt = s.flt ||| 0b010#3)) ∧
    (agent i = .env →
      t = { s with pins := t.pins, pcf := t.pcf, nvm := t.nvm } ∧
      (s.pcf = true → t.pcf = true)) ∧
    (agent i = .irq →
      t = { s with tov0 := t.tov0, ticks := t.ticks, pcf := t.pcf, prev := t.prev,
                   pulseOpen := t.pulseOpen, ref := t.ref, pubv := t.pubv, pubp := t.pubp,
                   mbVal := t.mbVal, mbSeq := t.mbSeq, mbNe := t.mbNe, tov1 := t.tov1,
                   ocf1 := t.ocf1, hi1 := t.hi1, ocie1 := t.ocie1, tcnt1 := t.tcnt1,
                   ocr1 := t.ocr1, stage := t.stage, w := t.w, out := t.out,
                   outDone := t.outDone } ∧
      (t.tov0 = true → s.tov0 = true) ∧ (t.pcf = true → s.pcf = true) ∧
      (t.tov1 = true → s.tov1 = true) ∧ (t.ocf1 = true → s.ocf1 = true) ∧
      (s.outDone = true → t.outDone = true) ∧
      (∀ c : Ch, s.mbNe.get c = true → t.mbNe.get c = true)) ∧
    (agent i = .main →
      (i ≠ .outStart →
        t = { s with tkp := t.tkp, tks1 := t.tks1, tkv := t.tkv, tkne := t.tkne, tkok := t.tkok,
                     mbNe := t.mbNe, chv := t.chv, fresh := t.fresh, tsRes := t.tsRes,
                     pollRes := t.pollRes, calState := t.calState, calCnt := t.calCnt,
                     cmin := t.cmin, cmax := t.cmax, cmid := t.cmid, thr := t.thr,
                     recValid := t.recValid, ind := t.ind, mode := t.mode, engSt := t.engSt,
                     flt := t.flt, nw := t.nw, ch1En := t.ch1En, outDone := t.outDone,
                     ie := t.ie, pcie := t.pcie, toie0 := t.toie0, nvm := t.nvm }) ∧
      (i = .outStart →
        t = { s with run := t.run, toie1 := t.toie1, stage := t.stage, w := t.w, out := t.out,
                     tcnt1 := t.tcnt1, ocr1 := t.ocr1, hi1 := t.hi1, tov1 := t.tov1,
                     ocf1 := t.ocf1, ocie1 := t.ocie1 }) ∧
      (i = .outStart → t ≠ s → s.run = false ∧ t.run = true) ∧
      (i = .outStart → t ≠ s → GeneratorInv s → s.toie1 = false ∧ s.ocie1 = false) ∧
      (∀ c : Ch, t.mbNe.get c = true → s.mbNe.get c = true) ∧
      (t.outDone = true → s.outDone = true) ∧
      hasFault t.flt .outputHazard = hasFault s.flt .outputHazard)

/-- R5, R10: every legal operation is total, it always answers a next state; the model's own fields, the
parameters and the trace (notes/assumptions/3.md, 1.md), are no operation's to change; and every behaviour
of the hardware, finite or infinite, has a state after each of its operations. -/
def Obligations.EveryLegalOperationIsTotal : Prop :=
  (∀ (i : Instr) (s : State), wellFormed i = true →
    ∃ t : State, exec i s = .next t ∧ t.params = s.params ∧ t.stream = s.stream) ∧
  (∀ (start : State) (tr : Trace), IsBehaviour start tr →
    ∀ n : Nat, ∃ t : State, stateAt tr start n = .next t ∧ t.params = start.params)
end

