-- ==== Sys2Proof/Laws/State.lean ====
section
/-! SUPPORT. The small lemmas of State: the per-channel registers read back what was written, and for
every named update of the state one lemma per field, true by unfolding that one update, so that no
later proof unfolds it. -/

namespace Sys2Proof.Machine

/-! ### Per-channel registers -/

@[simp] theorem Chan_get_ch0 {α : Type} (x : Chan α) : x.get .ch0 = x.c0 := rfl
@[simp] theorem Chan_get_ch1 {α : Type} (x : Chan α) : x.get .ch1 = x.c1 := rfl
@[simp] theorem Chan_set_ch0 {α : Type} (x : Chan α) (v : α) : x.set .ch0 v = ⟨v, x.c1⟩ := rfl
@[simp] theorem Chan_set_ch1 {α : Type} (x : Chan α) (v : α) : x.set .ch1 v = ⟨x.c0, v⟩ := rfl
@[simp] theorem Chan_both_get {α : Type} (v : α) (c : Ch) :
    (Chan.both v).get c = v := by
  cases c <;> rfl

@[simp] theorem Chan_get_set {α : Type} (x : Chan α) (c : Ch) (v : α) : (x.set c v).get c = v := by
  cases c <;> rfl

@[simp] theorem Chan_set_get {α : Type} (x : Chan α) (c : Ch) : x.set c (x.get c) = x := by
  cases c <;> rfl

@[simp] theorem Chan_set_set {α : Type} (x : Chan α) (c : Ch) (u v : α) :
    (x.set c u).set c v = x.set c v := by
  cases c <;> rfl

/-- A write to one channel leaves the other alone. -/
theorem Chan_get_set_of_ne {α : Type} (x : Chan α) {c d : Ch} (v : α) (h : d ≠ c) :
    (x.set c v).get d = x.get d := by
  cases c <;> cases d <;> first | rfl | exact absurd rfl h

/-- Two per-channel registers with the same value on both channels are equal. -/
theorem Chan_ext {α : Type} {x y : Chan α} (h : ∀ c : Ch, x.get c = y.get c) : x = y := by
  cases x; cases y
  have h0 := h .ch0; have h1 := h .ch1
  simp only [Chan.get] at h0 h1
  rw [h0, h1]

/-! ### clearPending -/

@[simp] theorem clearPending_cnt0 (src : Source) (s : State) :
    (clearPending s src).cnt0 = s.cnt0 := by cases src <;> rfl
@[simp] theorem clearPending_tov0 (src : Source) (s : State) :
    (clearPending s src).tov0 = (src != .inputOverflow && s.tov0) := by cases src <;> rfl
@[simp] theorem clearPending_ticks (src : Source) (s : State) :
    (clearPending s src).ticks = s.ticks := by cases src <;> rfl
@[simp] theorem clearPending_pins (src : Source) (s : State) :
    (clearPending s src).pins = s.pins := by cases src <;> rfl
@[simp] theorem clearPending_pcf (src : Source) (s : State) :
    (clearPending s src).pcf = (src != .pinChange && s.pcf) := by cases src <;> rfl
@[simp] theorem clearPending_prev (src : Source) (s : State) :
    (clearPending s src).prev = s.prev := by cases src <;> rfl
@[simp] theorem clearPending_pulseOpen (src : Source) (s : State) :
    (clearPending s src).pulseOpen = s.pulseOpen := by cases src <;> rfl
@[simp] theorem clearPending_ref (src : Source) (s : State) :
    (clearPending s src).ref = s.ref := by cases src <;> rfl
@[simp] theorem clearPending_mbVal (src : Source) (s : State) :
    (clearPending s src).mbVal = s.mbVal := by cases src <;> rfl
@[simp] theorem clearPending_mbSeq (src : Source) (s : State) :
    (clearPending s src).mbSeq = s.mbSeq := by cases src <;> rfl
@[simp] theorem clearPending_mbNe (src : Source) (s : State) :
    (clearPending s src).mbNe = s.mbNe := by cases src <;> rfl
@[simp] theorem clearPending_pubv (src : Source) (s : State) :
    (clearPending s src).pubv = s.pubv := by cases src <;> rfl
@[simp] theorem clearPending_pubp (src : Source) (s : State) :
    (clearPending s src).pubp = s.pubp := by cases src <;> rfl
@[simp] theorem clearPending_tkp (src : Source) (s : State) :
    (clearPending s src).tkp = s.tkp := by cases src <;> rfl
@[simp] theorem clearPending_tks1 (src : Source) (s : State) :
    (clearPending s src).tks1 = s.tks1 := by cases src <;> rfl
@[simp] theorem clearPending_tkv (src : Source) (s : State) :
    (clearPending s src).tkv = s.tkv := by cases src <;> rfl
@[simp] theorem clearPending_tkne (src : Source) (s : State) :
    (clearPending s src).tkne = s.tkne := by cases src <;> rfl
@[simp] theorem clearPending_tkok (src : Source) (s : State) :
    (clearPending s src).tkok = s.tkok := by cases src <;> rfl
@[simp] theorem clearPending_chv (src : Source) (s : State) :
    (clearPending s src).chv = s.chv := by cases src <;> rfl
@[simp] theorem clearPending_fresh (src : Source) (s : State) :
    (clearPending s src).fresh = s.fresh := by cases src <;> rfl
@[simp] theorem clearPending_tsRes (src : Source) (s : State) :
    (clearPending s src).tsRes = s.tsRes := by cases src <;> rfl
@[simp] theorem clearPending_pollRes (src : Source) (s : State) :
    (clearPending s src).pollRes = s.pollRes := by cases src <;> rfl
@[simp] theorem clearPending_calState (src : Source) (s : State) :
    (clearPending s src).calState = s.calState := by cases src <;> rfl
@[simp] theorem clearPending_calCnt (src : Source) (s : State) :
    (clearPending s src).calCnt = s.calCnt := by cases src <;> rfl
@[simp] theorem clearPending_cmin (src : Source) (s : State) :
    (clearPending s src).cmin = s.cmin := by cases src <;> rfl
@[simp] theorem clearPending_cmax (src : Source) (s : State) :
    (clearPending s src).cmax = s.cmax := by cases src <;> rfl
@[simp] theorem clearPending_cmid (src : Source) (s : State) :
    (clearPending s src).cmid = s.cmid := by cases src <;> rfl
@[simp] theorem clearPending_thr (src : Source) (s : State) :
    (clearPending s src).thr = s.thr := by cases src <;> rfl
@[simp] theorem clearPending_recValid (src : Source) (s : State) :
    (clearPending s src).recValid = s.recValid := by cases src <;> rfl
@[simp] theorem clearPending_ind (src : Source) (s : State) :
    (clearPending s src).ind = s.ind := by cases src <;> rfl
@[simp] theorem clearPending_mode (src : Source) (s : State) :
    (clearPending s src).mode = s.mode := by cases src <;> rfl
@[simp] theorem clearPending_engSt (src : Source) (s : State) :
    (clearPending s src).engSt = s.engSt := by cases src <;> rfl
@[simp] theorem clearPending_flt (src : Source) (s : State) :
    (clearPending s src).flt = s.flt := by cases src <;> rfl
@[simp] theorem clearPending_tcnt1 (src : Source) (s : State) :
    (clearPending s src).tcnt1 = s.tcnt1 := by cases src <;> rfl
@[simp] theorem clearPending_ocr1 (src : Source) (s : State) :
    (clearPending s src).ocr1 = s.ocr1 := by cases src <;> rfl
@[simp] theorem clearPending_tov1 (src : Source) (s : State) :
    (clearPending s src).tov1 = (src != .outputOverflow && s.tov1) := by cases src <;> rfl
@[simp] theorem clearPending_ocf1 (src : Source) (s : State) :
    (clearPending s src).ocf1 = (src != .outputCompare && s.ocf1) := by cases src <;> rfl
@[simp] theorem clearPending_hi1 (src : Source) (s : State) :
    (clearPending s src).hi1 = s.hi1 := by cases src <;> rfl
@[simp] theorem clearPending_stage (src : Source) (s : State) :
    (clearPending s src).stage = s.stage := by cases src <;> rfl
@[simp] theorem clearPending_run (src : Source) (s : State) :
    (clearPending s src).run = s.run := by cases src <;> rfl
@[simp] theorem clearPending_w (src : Source) (s : State) :
    (clearPending s src).w = s.w := by cases src <;> rfl
@[simp] theorem clearPending_nw (src : Source) (s : State) :
    (clearPending s src).nw = s.nw := by cases src <;> rfl
@[simp] theorem clearPending_ch1En (src : Source) (s : State) :
    (clearPending s src).ch1En = s.ch1En := by cases src <;> rfl
@[simp] theorem clearPending_outDone (src : Source) (s : State) :
    (clearPending s src).outDone = s.outDone := by cases src <;> rfl
@[simp] theorem clearPending_out (src : Source) (s : State) :
    (clearPending s src).out = s.out := by cases src <;> rfl
@[simp] theorem clearPending_ie (src : Source) (s : State) :
    (clearPending s src).ie = s.ie := by cases src <;> rfl
@[simp] theorem clearPending_pcie (src : Source) (s : State) :
    (clearPending s src).pcie = s.pcie := by cases src <;> rfl
@[simp] theorem clearPending_toie0 (src : Source) (s : State) :
    (clearPending s src).toie0 = s.toie0 := by cases src <;> rfl
@[simp] theorem clearPending_toie1 (src : Source) (s : State) :
    (clearPending s src).toie1 = s.toie1 := by cases src <;> rfl
@[simp] theorem clearPending_ocie1 (src : Source) (s : State) :
    (clearPending s src).ocie1 = s.ocie1 := by cases src <;> rfl
@[simp] theorem clearPending_nvm (src : Source) (s : State) :
    (clearPending s src).nvm = s.nvm := by cases src <;> rfl
@[simp] theorem clearPending_params (src : Source) (s : State) :
    (clearPending s src).params = s.params := by cases src <;> rfl
@[simp] theorem clearPending_stream (src : Source) (s : State) :
    (clearPending s src).stream = s.stream := by cases src <;> rfl

/-! ### raiseFault -/

@[simp] theorem raiseFault_cnt0 (f : FaultName) (s : State) : (raiseFault f s).cnt0 = s.cnt0 := rfl
@[simp] theorem raiseFault_tov0 (f : FaultName) (s : State) : (raiseFault f s).tov0 = s.tov0 := rfl
@[simp] theorem raiseFault_ticks (f : FaultName) (s : State) :
    (raiseFault f s).ticks = s.ticks := rfl
@[simp] theorem raiseFault_pins (f : FaultName) (s : State) : (raiseFault f s).pins = s.pins := rfl
@[simp] theorem raiseFault_pcf (f : FaultName) (s : State) : (raiseFault f s).pcf = s.pcf := rfl
@[simp] theorem raiseFault_prev (f : FaultName) (s : State) : (raiseFault f s).prev = s.prev := rfl
@[simp] theorem raiseFault_pulseOpen (f : FaultName) (s : State) :
    (raiseFault f s).pulseOpen = s.pulseOpen := rfl
@[simp] theorem raiseFault_ref (f : FaultName) (s : State) : (raiseFault f s).ref = s.ref := rfl
@[simp] theorem raiseFault_mbVal (f : FaultName) (s : State) :
    (raiseFault f s).mbVal = s.mbVal := rfl
@[simp] theorem raiseFault_mbSeq (f : FaultName) (s : State) :
    (raiseFault f s).mbSeq = s.mbSeq := rfl
@[simp] theorem raiseFault_mbNe (f : FaultName) (s : State) : (raiseFault f s).mbNe = s.mbNe := rfl
@[simp] theorem raiseFault_pubv (f : FaultName) (s : State) : (raiseFault f s).pubv = s.pubv := rfl
@[simp] theorem raiseFault_pubp (f : FaultName) (s : State) : (raiseFault f s).pubp = s.pubp := rfl
@[simp] theorem raiseFault_tkp (f : FaultName) (s : State) : (raiseFault f s).tkp = s.tkp := rfl
@[simp] theorem raiseFault_tks1 (f : FaultName) (s : State) : (raiseFault f s).tks1 = s.tks1 := rfl
@[simp] theorem raiseFault_tkv (f : FaultName) (s : State) : (raiseFault f s).tkv = s.tkv := rfl
@[simp] theorem raiseFault_tkne (f : FaultName) (s : State) : (raiseFault f s).tkne = s.tkne := rfl
@[simp] theorem raiseFault_tkok (f : FaultName) (s : State) : (raiseFault f s).tkok = s.tkok := rfl
@[simp] theorem raiseFault_chv (f : FaultName) (s : State) : (raiseFault f s).chv = s.chv := rfl
@[simp] theorem raiseFault_fresh (f : FaultName) (s : State) :
    (raiseFault f s).fresh = s.fresh := rfl
@[simp] theorem raiseFault_tsRes (f : FaultName) (s : State) :
    (raiseFault f s).tsRes = s.tsRes := rfl
@[simp] theorem raiseFault_pollRes (f : FaultName) (s : State) :
    (raiseFault f s).pollRes = s.pollRes := rfl
@[simp] theorem raiseFault_calState (f : FaultName) (s : State) :
    (raiseFault f s).calState = s.calState := rfl
@[simp] theorem raiseFault_calCnt (f : FaultName) (s : State) :
    (raiseFault f s).calCnt = s.calCnt := rfl
@[simp] theorem raiseFault_cmin (f : FaultName) (s : State) : (raiseFault f s).cmin = s.cmin := rfl
@[simp] theorem raiseFault_cmax (f : FaultName) (s : State) : (raiseFault f s).cmax = s.cmax := rfl
@[simp] theorem raiseFault_cmid (f : FaultName) (s : State) : (raiseFault f s).cmid = s.cmid := rfl
@[simp] theorem raiseFault_thr (f : FaultName) (s : State) : (raiseFault f s).thr = s.thr := rfl
@[simp] theorem raiseFault_recValid (f : FaultName) (s : State) :
    (raiseFault f s).recValid = s.recValid := rfl
@[simp] theorem raiseFault_ind (f : FaultName) (s : State) : (raiseFault f s).ind = s.ind := rfl
@[simp] theorem raiseFault_mode (f : FaultName) (s : State) : (raiseFault f s).mode = s.mode := rfl
@[simp] theorem raiseFault_engSt (f : FaultName) (s : State) :
    (raiseFault f s).engSt = s.engSt := rfl
@[simp] theorem raiseFault_flt (f : FaultName) (s : State) :
    (raiseFault f s).flt = s.flt ||| faultBit f := rfl
@[simp] theorem raiseFault_tcnt1 (f : FaultName) (s : State) :
    (raiseFault f s).tcnt1 = s.tcnt1 := rfl
@[simp] theorem raiseFault_ocr1 (f : FaultName) (s : State) : (raiseFault f s).ocr1 = s.ocr1 := rfl
@[simp] theorem raiseFault_tov1 (f : FaultName) (s : State) : (raiseFault f s).tov1 = s.tov1 := rfl
@[simp] theorem raiseFault_ocf1 (f : FaultName) (s : State) : (raiseFault f s).ocf1 = s.ocf1 := rfl
@[simp] theorem raiseFault_hi1 (f : FaultName) (s : State) : (raiseFault f s).hi1 = s.hi1 := rfl
@[simp] theorem raiseFault_stage (f : FaultName) (s : State) :
    (raiseFault f s).stage = s.stage := rfl
@[simp] theorem raiseFault_run (f : FaultName) (s : State) : (raiseFault f s).run = s.run := rfl
@[simp] theorem raiseFault_w (f : FaultName) (s : State) : (raiseFault f s).w = s.w := rfl
@[simp] theorem raiseFault_nw (f : FaultName) (s : State) : (raiseFault f s).nw = s.nw := rfl
@[simp] theorem raiseFault_ch1En (f : FaultName) (s : State) :
    (raiseFault f s).ch1En = s.ch1En := rfl
@[simp] theorem raiseFault_outDone (f : FaultName) (s : State) :
    (raiseFault f s).outDone = s.outDone := rfl
@[simp] theorem raiseFault_out (f : FaultName) (s : State) : (raiseFault f s).out = s.out := rfl
@[simp] theorem raiseFault_ie (f : FaultName) (s : State) : (raiseFault f s).ie = s.ie := rfl
@[simp] theorem raiseFault_pcie (f : FaultName) (s : State) : (raiseFault f s).pcie = s.pcie := rfl
@[simp] theorem raiseFault_toie0 (f : FaultName) (s : State) :
    (raiseFault f s).toie0 = s.toie0 := rfl
@[simp] theorem raiseFault_toie1 (f : FaultName) (s : State) :
    (raiseFault f s).toie1 = s.toie1 := rfl
@[simp] theorem raiseFault_ocie1 (f : FaultName) (s : State) :
    (raiseFault f s).ocie1 = s.ocie1 := rfl
@[simp] theorem raiseFault_nvm (f : FaultName) (s : State) : (raiseFault f s).nvm = s.nvm := rfl
@[simp] theorem raiseFault_params (f : FaultName) (s : State) :
    (raiseFault f s).params = s.params := rfl
@[simp] theorem raiseFault_stream (f : FaultName) (s : State) :
    (raiseFault f s).stream = s.stream := rfl

/-! ### startPublish -/

@[simp] theorem startPublish_cnt0 (c : Ch) (v : Word) (s : State) :
    (startPublish c v s).cnt0 = s.cnt0 := rfl
@[simp] theorem startPublish_tov0 (c : Ch) (v : Word) (s : State) :
    (startPublish c v s).tov0 = s.tov0 := rfl
@[simp] theorem startPublish_ticks (c : Ch) (v : Word) (s : State) :
    (startPublish c v s).ticks = s.ticks := rfl
@[simp] theorem startPublish_pins (c : Ch) (v : Word) (s : State) :
    (startPublish c v s).pins = s.pins := rfl
@[simp] theorem startPublish_pcf (c : Ch) (v : Word) (s : State) :
    (startPublish c v s).pcf = s.pcf := rfl
@[simp] theorem startPublish_prev (c : Ch) (v : Word) (s : State) :
    (startPublish c v s).prev = s.prev := rfl
@[simp] theorem startPublish_pulseOpen (c : Ch) (v : Word) (s : State) :
    (startPublish c v s).pulseOpen = s.pulseOpen := rfl
@[simp] theorem startPublish_ref (c : Ch) (v : Word) (s : State) :
    (startPublish c v s).ref = s.ref := rfl
@[simp] theorem startPublish_mbVal (c : Ch) (v : Word) (s : State) :
    (startPublish c v s).mbVal = s.mbVal := rfl
@[simp] theorem startPublish_mbSeq (c : Ch) (v : Word) (s : State) :
    (startPublish c v s).mbSeq = s.mbSeq := rfl
@[simp] theorem startPublish_mbNe (c : Ch) (v : Word) (s : State) :
    (startPublish c v s).mbNe = s.mbNe := rfl
@[simp] theorem startPublish_pubv (c : Ch) (v : Word) (s : State) :
    (startPublish c v s).pubv = s.pubv.set c v := rfl
@[simp] theorem startPublish_pubp (c : Ch) (v : Word) (s : State) :
    (startPublish c v s).pubp = s.pubp.set c .p1 := rfl
@[simp] theorem startPublish_tkp (c : Ch) (v : Word) (s : State) :
    (startPublish c v s).tkp = s.tkp := rfl
@[simp] theorem startPublish_tks1 (c : Ch) (v : Word) (s : State) :
    (startPublish c v s).tks1 = s.tks1 := rfl
@[simp] theorem startPublish_tkv (c : Ch) (v : Word) (s : State) :
    (startPublish c v s).tkv = s.tkv := rfl
@[simp] theorem startPublish_tkne (c : Ch) (v : Word) (s : State) :
    (startPublish c v s).tkne = s.tkne := rfl
@[simp] theorem startPublish_tkok (c : Ch) (v : Word) (s : State) :
    (startPublish c v s).tkok = s.tkok := rfl
@[simp] theorem startPublish_chv (c : Ch) (v : Word) (s : State) :
    (startPublish c v s).chv = s.chv := rfl
@[simp] theorem startPublish_fresh (c : Ch) (v : Word) (s : State) :
    (startPublish c v s).fresh = s.fresh := rfl
@[simp] theorem startPublish_tsRes (c : Ch) (v : Word) (s : State) :
    (startPublish c v s).tsRes = s.tsRes := rfl
@[simp] theorem startPublish_pollRes (c : Ch) (v : Word) (s : State) :
    (startPublish c v s).pollRes = s.pollRes := rfl
@[simp] theorem startPublish_calState (c : Ch) (v : Word) (s : State) :
    (startPublish c v s).calState = s.calState := rfl
@[simp] theorem startPublish_calCnt (c : Ch) (v : Word) (s : State) :
    (startPublish c v s).calCnt = s.calCnt := rfl
@[simp] theorem startPublish_cmin (c : Ch) (v : Word) (s : State) :
    (startPublish c v s).cmin = s.cmin := rfl
@[simp] theorem startPublish_cmax (c : Ch) (v : Word) (s : State) :
    (startPublish c v s).cmax = s.cmax := rfl
@[simp] theorem startPublish_cmid (c : Ch) (v : Word) (s : State) :
    (startPublish c v s).cmid = s.cmid := rfl
@[simp] theorem startPublish_thr (c : Ch) (v : Word) (s : State) :
    (startPublish c v s).thr = s.thr := rfl
@[simp] theorem startPublish_recValid (c : Ch) (v : Word) (s : State) :
    (startPublish c v s).recValid = s.recValid := rfl
@[simp] theorem startPublish_ind (c : Ch) (v : Word) (s : State) :
    (startPublish c v s).ind = s.ind := rfl
@[simp] theorem startPublish_mode (c : Ch) (v : Word) (s : State) :
    (startPublish c v s).mode = s.mode := rfl
@[simp] theorem startPublish_engSt (c : Ch) (v : Word) (s : State) :
    (startPublish c v s).engSt = s.engSt := rfl
@[simp] theorem startPublish_flt (c : Ch) (v : Word) (s : State) :
    (startPublish c v s).flt = s.flt := rfl
@[simp] theorem startPublish_tcnt1 (c : Ch) (v : Word) (s : State) :
    (startPublish c v s).tcnt1 = s.tcnt1 := rfl
@[simp] theorem startPublish_ocr1 (c : Ch) (v : Word) (s : State) :
    (startPublish c v s).ocr1 = s.ocr1 := rfl
@[simp] theorem startPublish_tov1 (c : Ch) (v : Word) (s : State) :
    (startPublish c v s).tov1 = s.tov1 := rfl
@[simp] theorem startPublish_ocf1 (c : Ch) (v : Word) (s : State) :
    (startPublish c v s).ocf1 = s.ocf1 := rfl
@[simp] theorem startPublish_hi1 (c : Ch) (v : Word) (s : State) :
    (startPublish c v s).hi1 = s.hi1 := rfl
@[simp] theorem startPublish_stage (c : Ch) (v : Word) (s : State) :
    (startPublish c v s).stage = s.stage := rfl
@[simp] theorem startPublish_run (c : Ch) (v : Word) (s : State) :
    (startPublish c v s).run = s.run := rfl
@[simp] theorem startPublish_w (c : Ch) (v : Word) (s : State) : (startPublish c v s).w = s.w := rfl
@[simp] theorem startPublish_nw (c : Ch) (v : Word) (s : State) :
    (startPublish c v s).nw = s.nw := rfl
@[simp] theorem startPublish_ch1En (c : Ch) (v : Word) (s : State) :
    (startPublish c v s).ch1En = s.ch1En := rfl
@[simp] theorem startPublish_outDone (c : Ch) (v : Word) (s : State) :
    (startPublish c v s).outDone = s.outDone := rfl
@[simp] theorem startPublish_out (c : Ch) (v : Word) (s : State) :
    (startPublish c v s).out = s.out := rfl
@[simp] theorem startPublish_ie (c : Ch) (v : Word) (s : State) :
    (startPublish c v s).ie = s.ie := rfl
@[simp] theorem startPublish_pcie (c : Ch) (v : Word) (s : State) :
    (startPublish c v s).pcie = s.pcie := rfl
@[simp] theorem startPublish_toie0 (c : Ch) (v : Word) (s : State) :
    (startPublish c v s).toie0 = s.toie0 := rfl
@[simp] theorem startPublish_toie1 (c : Ch) (v : Word) (s : State) :
    (startPublish c v s).toie1 = s.toie1 := rfl
@[simp] theorem startPublish_ocie1 (c : Ch) (v : Word) (s : State) :
    (startPublish c v s).ocie1 = s.ocie1 := rfl
@[simp] theorem startPublish_nvm (c : Ch) (v : Word) (s : State) :
    (startPublish c v s).nvm = s.nvm := rfl
@[simp] theorem startPublish_params (c : Ch) (v : Word) (s : State) :
    (startPublish c v s).params = s.params := rfl
@[simp] theorem startPublish_stream (c : Ch) (v : Word) (s : State) :
    (startPublish c v s).stream = s.stream := rfl

/-! ### setW -/

@[simp] theorem setW_cnt0 (a b : Word) (s : State) :
    (setW a b s).cnt0 = s.cnt0 := by unfold setW; split <;> rfl
@[simp] theorem setW_tov0 (a b : Word) (s : State) :
    (setW a b s).tov0 = s.tov0 := by unfold setW; split <;> rfl
@[simp] theorem setW_ticks (a b : Word) (s : State) :
    (setW a b s).ticks = s.ticks := by unfold setW; split <;> rfl
@[simp] theorem setW_pins (a b : Word) (s : State) :
    (setW a b s).pins = s.pins := by unfold setW; split <;> rfl
@[simp] theorem setW_pcf (a b : Word) (s : State) :
    (setW a b s).pcf = s.pcf := by unfold setW; split <;> rfl
@[simp] theorem setW_prev (a b : Word) (s : State) :
    (setW a b s).prev = s.prev := by unfold setW; split <;> rfl
@[simp] theorem setW_pulseOpen (a b : Word) (s : State) :
    (setW a b s).pulseOpen = s.pulseOpen := by unfold setW; split <;> rfl
@[simp] theorem setW_ref (a b : Word) (s : State) :
    (setW a b s).ref = s.ref := by unfold setW; split <;> rfl
@[simp] theorem setW_mbVal (a b : Word) (s : State) :
    (setW a b s).mbVal = s.mbVal := by unfold setW; split <;> rfl
@[simp] theorem setW_mbSeq (a b : Word) (s : State) :
    (setW a b s).mbSeq = s.mbSeq := by unfold setW; split <;> rfl
@[simp] theorem setW_mbNe (a b : Word) (s : State) :
    (setW a b s).mbNe = s.mbNe := by unfold setW; split <;> rfl
@[simp] theorem setW_pubv (a b : Word) (s : State) :
    (setW a b s).pubv = s.pubv := by unfold setW; split <;> rfl
@[simp] theorem setW_pubp (a b : Word) (s : State) :
    (setW a b s).pubp = s.pubp := by unfold setW; split <;> rfl
@[simp] theorem setW_tkp (a b : Word) (s : State) :
    (setW a b s).tkp = s.tkp := by unfold setW; split <;> rfl
@[simp] theorem setW_tks1 (a b : Word) (s : State) :
    (setW a b s).tks1 = s.tks1 := by unfold setW; split <;> rfl
@[simp] theorem setW_tkv (a b : Word) (s : State) :
    (setW a b s).tkv = s.tkv := by unfold setW; split <;> rfl
@[simp] theorem setW_tkne (a b : Word) (s : State) :
    (setW a b s).tkne = s.tkne := by unfold setW; split <;> rfl
@[simp] theorem setW_tkok (a b : Word) (s : State) :
    (setW a b s).tkok = s.tkok := by unfold setW; split <;> rfl
@[simp] theorem setW_chv (a b : Word) (s : State) :
    (setW a b s).chv = s.chv := by unfold setW; split <;> rfl
@[simp] theorem setW_fresh (a b : Word) (s : State) :
    (setW a b s).fresh = s.fresh := by unfold setW; split <;> rfl
@[simp] theorem setW_tsRes (a b : Word) (s : State) :
    (setW a b s).tsRes = s.tsRes := by unfold setW; split <;> rfl
@[simp] theorem setW_pollRes (a b : Word) (s : State) :
    (setW a b s).pollRes = s.pollRes := by unfold setW; split <;> rfl
@[simp] theorem setW_calState (a b : Word) (s : State) :
    (setW a b s).calState = s.calState := by unfold setW; split <;> rfl
@[simp] theorem setW_calCnt (a b : Word) (s : State) :
    (setW a b s).calCnt = s.calCnt := by unfold setW; split <;> rfl
@[simp] theorem setW_cmin (a b : Word) (s : State) :
    (setW a b s).cmin = s.cmin := by unfold setW; split <;> rfl
@[simp] theorem setW_cmax (a b : Word) (s : State) :
    (setW a b s).cmax = s.cmax := by unfold setW; split <;> rfl
@[simp] theorem setW_cmid (a b : Word) (s : State) :
    (setW a b s).cmid = s.cmid := by unfold setW; split <;> rfl
@[simp] theorem setW_thr (a b : Word) (s : State) :
    (setW a b s).thr = s.thr := by unfold setW; split <;> rfl
@[simp] theorem setW_recValid (a b : Word) (s : State) :
    (setW a b s).recValid = s.recValid := by unfold setW; split <;> rfl
@[simp] theorem setW_ind (a b : Word) (s : State) :
    (setW a b s).ind = s.ind := by unfold setW; split <;> rfl
@[simp] theorem setW_mode (a b : Word) (s : State) :
    (setW a b s).mode = s.mode := by unfold setW; split <;> rfl
@[simp] theorem setW_engSt (a b : Word) (s : State) :
    (setW a b s).engSt = s.engSt := by unfold setW; split <;> rfl
@[simp] theorem setW_tcnt1 (a b : Word) (s : State) :
    (setW a b s).tcnt1 = s.tcnt1 := by unfold setW; split <;> rfl
@[simp] theorem setW_ocr1 (a b : Word) (s : State) :
    (setW a b s).ocr1 = s.ocr1 := by unfold setW; split <;> rfl
@[simp] theorem setW_tov1 (a b : Word) (s : State) :
    (setW a b s).tov1 = s.tov1 := by unfold setW; split <;> rfl
@[simp] theorem setW_ocf1 (a b : Word) (s : State) :
    (setW a b s).ocf1 = s.ocf1 := by unfold setW; split <;> rfl
@[simp] theorem setW_hi1 (a b : Word) (s : State) :
    (setW a b s).hi1 = s.hi1 := by unfold setW; split <;> rfl
@[simp] theorem setW_stage (a b : Word) (s : State) :
    (setW a b s).stage = s.stage := by unfold setW; split <;> rfl
@[simp] theorem setW_run (a b : Word) (s : State) :
    (setW a b s).run = s.run := by unfold setW; split <;> rfl
@[simp] theorem setW_w (a b : Word) (s : State) :
    (setW a b s).w = s.w := by unfold setW; split <;> rfl
@[simp] theorem setW_ch1En (a b : Word) (s : State) :
    (setW a b s).ch1En = s.ch1En := by unfold setW; split <;> rfl
@[simp] theorem setW_outDone (a b : Word) (s : State) :
    (setW a b s).outDone = s.outDone := by unfold setW; split <;> rfl
@[simp] theorem setW_out (a b : Word) (s : State) :
    (setW a b s).out = s.out := by unfold setW; split <;> rfl
@[simp] theorem setW_ie (a b : Word) (s : State) :
    (setW a b s).ie = s.ie := by unfold setW; split <;> rfl
@[simp] theorem setW_pcie (a b : Word) (s : State) :
    (setW a b s).pcie = s.pcie := by unfold setW; split <;> rfl
@[simp] theorem setW_toie0 (a b : Word) (s : State) :
    (setW a b s).toie0 = s.toie0 := by unfold setW; split <;> rfl
@[simp] theorem setW_toie1 (a b : Word) (s : State) :
    (setW a b s).toie1 = s.toie1 := by unfold setW; split <;> rfl
@[simp] theorem setW_ocie1 (a b : Word) (s : State) :
    (setW a b s).ocie1 = s.ocie1 := by unfold setW; split <;> rfl
@[simp] theorem setW_nvm (a b : Word) (s : State) :
    (setW a b s).nvm = s.nvm := by unfold setW; split <;> rfl
@[simp] theorem setW_params (a b : Word) (s : State) :
    (setW a b s).params = s.params := by unfold setW; split <;> rfl
@[simp] theorem setW_stream (a b : Word) (s : State) :
    (setW a b s).stream = s.stream := by unfold setW; split <;> rfl

/-! ### program -/

@[simp] theorem program_cnt0 (d : Word) (s : State) : (program d s).cnt0 = s.cnt0 := rfl
@[simp] theorem program_tov0 (d : Word) (s : State) : (program d s).tov0 = s.tov0 := rfl
@[simp] theorem program_ticks (d : Word) (s : State) : (program d s).ticks = s.ticks := rfl
@[simp] theorem program_pins (d : Word) (s : State) : (program d s).pins = s.pins := rfl
@[simp] theorem program_pcf (d : Word) (s : State) : (program d s).pcf = s.pcf := rfl
@[simp] theorem program_prev (d : Word) (s : State) : (program d s).prev = s.prev := rfl
@[simp] theorem program_pulseOpen (d : Word) (s : State) :
    (program d s).pulseOpen = s.pulseOpen := rfl
@[simp] theorem program_ref (d : Word) (s : State) : (program d s).ref = s.ref := rfl
@[simp] theorem program_mbVal (d : Word) (s : State) : (program d s).mbVal = s.mbVal := rfl
@[simp] theorem program_mbSeq (d : Word) (s : State) : (program d s).mbSeq = s.mbSeq := rfl
@[simp] theorem program_mbNe (d : Word) (s : State) : (program d s).mbNe = s.mbNe := rfl
@[simp] theorem program_pubv (d : Word) (s : State) : (program d s).pubv = s.pubv := rfl
@[simp] theorem program_pubp (d : Word) (s : State) : (program d s).pubp = s.pubp := rfl
@[simp] theorem program_tkp (d : Word) (s : State) : (program d s).tkp = s.tkp := rfl
@[simp] theorem program_tks1 (d : Word) (s : State) : (program d s).tks1 = s.tks1 := rfl
@[simp] theorem program_tkv (d : Word) (s : State) : (program d s).tkv = s.tkv := rfl
@[simp] theorem program_tkne (d : Word) (s : State) : (program d s).tkne = s.tkne := rfl
@[simp] theorem program_tkok (d : Word) (s : State) : (program d s).tkok = s.tkok := rfl
@[simp] theorem program_chv (d : Word) (s : State) : (program d s).chv = s.chv := rfl
@[simp] theorem program_fresh (d : Word) (s : State) : (program d s).fresh = s.fresh := rfl
@[simp] theorem program_tsRes (d : Word) (s : State) : (program d s).tsRes = s.tsRes := rfl
@[simp] theorem program_pollRes (d : Word) (s : State) : (program d s).pollRes = s.pollRes := rfl
@[simp] theorem program_calState (d : Word) (s : State) : (program d s).calState = s.calState := rfl
@[simp] theorem program_calCnt (d : Word) (s : State) : (program d s).calCnt = s.calCnt := rfl
@[simp] theorem program_cmin (d : Word) (s : State) : (program d s).cmin = s.cmin := rfl
@[simp] theorem program_cmax (d : Word) (s : State) : (program d s).cmax = s.cmax := rfl
@[simp] theorem program_cmid (d : Word) (s : State) : (program d s).cmid = s.cmid := rfl
@[simp] theorem program_thr (d : Word) (s : State) : (program d s).thr = s.thr := rfl
@[simp] theorem program_recValid (d : Word) (s : State) : (program d s).recValid = s.recValid := rfl
@[simp] theorem program_ind (d : Word) (s : State) : (program d s).ind = s.ind := rfl
@[simp] theorem program_mode (d : Word) (s : State) : (program d s).mode = s.mode := rfl
@[simp] theorem program_engSt (d : Word) (s : State) : (program d s).engSt = s.engSt := rfl
@[simp] theorem program_flt (d : Word) (s : State) : (program d s).flt = s.flt := rfl
@[simp] theorem program_tov1 (d : Word) (s : State) : (program d s).tov1 = false := rfl
@[simp] theorem program_ocf1 (d : Word) (s : State) : (program d s).ocf1 = false := rfl
@[simp] theorem program_hi1 (d : Word) (s : State) : (program d s).hi1 = highByte d := rfl
@[simp] theorem program_stage (d : Word) (s : State) : (program d s).stage = s.stage := rfl
@[simp] theorem program_run (d : Word) (s : State) : (program d s).run = s.run := rfl
@[simp] theorem program_w (d : Word) (s : State) : (program d s).w = s.w := rfl
@[simp] theorem program_nw (d : Word) (s : State) : (program d s).nw = s.nw := rfl
@[simp] theorem program_ch1En (d : Word) (s : State) : (program d s).ch1En = s.ch1En := rfl
@[simp] theorem program_outDone (d : Word) (s : State) : (program d s).outDone = s.outDone := rfl
@[simp] theorem program_out (d : Word) (s : State) : (program d s).out = s.out := rfl
@[simp] theorem program_ie (d : Word) (s : State) : (program d s).ie = s.ie := rfl
@[simp] theorem program_pcie (d : Word) (s : State) : (program d s).pcie = s.pcie := rfl
@[simp] theorem program_toie0 (d : Word) (s : State) : (program d s).toie0 = s.toie0 := rfl
@[simp] theorem program_toie1 (d : Word) (s : State) : (program d s).toie1 = s.toie1 := rfl
@[simp] theorem program_ocie1 (d : Word) (s : State) :
    (program d s).ocie1 = (highByte d == 0#8) := rfl
@[simp] theorem program_nvm (d : Word) (s : State) : (program d s).nvm = s.nvm := rfl
@[simp] theorem program_params (d : Word) (s : State) : (program d s).params = s.params := rfl
@[simp] theorem program_stream (d : Word) (s : State) : (program d s).stream = s.stream := rfl

/-! ### openStage -/

@[simp] theorem openStage_cnt0 (st : Stage) (s : State) :
    (openStage st s).cnt0 = s.cnt0 := by cases st <;> rfl
@[simp] theorem openStage_tov0 (st : Stage) (s : State) :
    (openStage st s).tov0 = s.tov0 := by cases st <;> rfl
@[simp] theorem openStage_ticks (st : Stage) (s : State) :
    (openStage st s).ticks = s.ticks := by cases st <;> rfl
@[simp] theorem openStage_pins (st : Stage) (s : State) :
    (openStage st s).pins = s.pins := by cases st <;> rfl
@[simp] theorem openStage_pcf (st : Stage) (s : State) :
    (openStage st s).pcf = s.pcf := by cases st <;> rfl
@[simp] theorem openStage_prev (st : Stage) (s : State) :
    (openStage st s).prev = s.prev := by cases st <;> rfl
@[simp] theorem openStage_pulseOpen (st : Stage) (s : State) :
    (openStage st s).pulseOpen = s.pulseOpen := by cases st <;> rfl
@[simp] theorem openStage_ref (st : Stage) (s : State) :
    (openStage st s).ref = s.ref := by cases st <;> rfl
@[simp] theorem openStage_mbVal (st : Stage) (s : State) :
    (openStage st s).mbVal = s.mbVal := by cases st <;> rfl
@[simp] theorem openStage_mbSeq (st : Stage) (s : State) :
    (openStage st s).mbSeq = s.mbSeq := by cases st <;> rfl
@[simp] theorem openStage_mbNe (st : Stage) (s : State) :
    (openStage st s).mbNe = s.mbNe := by cases st <;> rfl
@[simp] theorem openStage_pubv (st : Stage) (s : State) :
    (openStage st s).pubv = s.pubv := by cases st <;> rfl
@[simp] theorem openStage_pubp (st : Stage) (s : State) :
    (openStage st s).pubp = s.pubp := by cases st <;> rfl
@[simp] theorem openStage_tkp (st : Stage) (s : State) :
    (openStage st s).tkp = s.tkp := by cases st <;> rfl
@[simp] theorem openStage_tks1 (st : Stage) (s : State) :
    (openStage st s).tks1 = s.tks1 := by cases st <;> rfl
@[simp] theorem openStage_tkv (st : Stage) (s : State) :
    (openStage st s).tkv = s.tkv := by cases st <;> rfl
@[simp] theorem openStage_tkne (st : Stage) (s : State) :
    (openStage st s).tkne = s.tkne := by cases st <;> rfl
@[simp] theorem openStage_tkok (st : Stage) (s : State) :
    (openStage st s).tkok = s.tkok := by cases st <;> rfl
@[simp] theorem openStage_chv (st : Stage) (s : State) :
    (openStage st s).chv = s.chv := by cases st <;> rfl
@[simp] theorem openStage_fresh (st : Stage) (s : State) :
    (openStage st s).fresh = s.fresh := by cases st <;> rfl
@[simp] theorem openStage_tsRes (st : Stage) (s : State) :
    (openStage st s).tsRes = s.tsRes := by cases st <;> rfl
@[simp] theorem openStage_pollRes (st : Stage) (s : State) :
    (openStage st s).pollRes = s.pollRes := by cases st <;> rfl
@[simp] theorem openStage_calState (st : Stage) (s : State) :
    (openStage st s).calState = s.calState := by cases st <;> rfl
@[simp] theorem openStage_calCnt (st : Stage) (s : State) :
    (openStage st s).calCnt = s.calCnt := by cases st <;> rfl
@[simp] theorem openStage_cmin (st : Stage) (s : State) :
    (openStage st s).cmin = s.cmin := by cases st <;> rfl
@[simp] theorem openStage_cmax (st : Stage) (s : State) :
    (openStage st s).cmax = s.cmax := by cases st <;> rfl
@[simp] theorem openStage_cmid (st : Stage) (s : State) :
    (openStage st s).cmid = s.cmid := by cases st <;> rfl
@[simp] theorem openStage_thr (st : Stage) (s : State) :
    (openStage st s).thr = s.thr := by cases st <;> rfl
@[simp] theorem openStage_recValid (st : Stage) (s : State) :
    (openStage st s).recValid = s.recValid := by cases st <;> rfl
@[simp] theorem openStage_ind (st : Stage) (s : State) :
    (openStage st s).ind = s.ind := by cases st <;> rfl
@[simp] theorem openStage_mode (st : Stage) (s : State) :
    (openStage st s).mode = s.mode := by cases st <;> rfl
@[simp] theorem openStage_engSt (st : Stage) (s : State) :
    (openStage st s).engSt = s.engSt := by cases st <;> rfl
@[simp] theorem openStage_flt (st : Stage) (s : State) :
    (openStage st s).flt = s.flt := by cases st <;> rfl
@[simp] theorem openStage_tcnt1 (st : Stage) (s : State) :
    (openStage st s).tcnt1 = s.tcnt1 := by cases st <;> rfl
@[simp] theorem openStage_ocr1 (st : Stage) (s : State) :
    (openStage st s).ocr1 = s.ocr1 := by cases st <;> rfl
@[simp] theorem openStage_tov1 (st : Stage) (s : State) :
    (openStage st s).tov1 = s.tov1 := by cases st <;> rfl
@[simp] theorem openStage_ocf1 (st : Stage) (s : State) :
    (openStage st s).ocf1 = s.ocf1 := by cases st <;> rfl
@[simp] theorem openStage_hi1 (st : Stage) (s : State) :
    (openStage st s).hi1 = s.hi1 := by cases st <;> rfl
@[simp] theorem openStage_stage (st : Stage) (s : State) :
    (openStage st s).stage = st := by cases st <;> rfl
@[simp] theorem openStage_run (st : Stage) (s : State) :
    (openStage st s).run = s.run := by cases st <;> rfl
@[simp] theorem openStage_nw (st : Stage) (s : State) :
    (openStage st s).nw = s.nw := by cases st <;> rfl
@[simp] theorem openStage_ch1En (st : Stage) (s : State) :
    (openStage st s).ch1En = s.ch1En := by cases st <;> rfl
@[simp] theorem openStage_outDone (st : Stage) (s : State) :
    (openStage st s).outDone = s.outDone := by cases st <;> rfl
@[simp] theorem openStage_ie (st : Stage) (s : State) :
    (openStage st s).ie = s.ie := by cases st <;> rfl
@[simp] theorem openStage_pcie (st : Stage) (s : State) :
    (openStage st s).pcie = s.pcie := by cases st <;> rfl
@[simp] theorem openStage_toie0 (st : Stage) (s : State) :
    (openStage st s).toie0 = s.toie0 := by cases st <;> rfl
@[simp] theorem openStage_toie1 (st : Stage) (s : State) :
    (openStage st s).toie1 = s.toie1 := by cases st <;> rfl
@[simp] theorem openStage_ocie1 (st : Stage) (s : State) :
    (openStage st s).ocie1 = s.ocie1 := by cases st <;> rfl
@[simp] theorem openStage_nvm (st : Stage) (s : State) :
    (openStage st s).nvm = s.nvm := by cases st <;> rfl
@[simp] theorem openStage_params (st : Stage) (s : State) :
    (openStage st s).params = s.params := by cases st <;> rfl
@[simp] theorem openStage_stream (st : Stage) (s : State) :
    (openStage st s).stream = s.stream := by cases st <;> rfl

/-! ### closeStage -/

@[simp] theorem closeStage_cnt0 (st : Stage) (s : State) :
    (closeStage st s).cnt0 = s.cnt0 := by cases st <;> rfl
@[simp] theorem closeStage_tov0 (st : Stage) (s : State) :
    (closeStage st s).tov0 = s.tov0 := by cases st <;> rfl
@[simp] theorem closeStage_ticks (st : Stage) (s : State) :
    (closeStage st s).ticks = s.ticks := by cases st <;> rfl
@[simp] theorem closeStage_pins (st : Stage) (s : State) :
    (closeStage st s).pins = s.pins := by cases st <;> rfl
@[simp] theorem closeStage_pcf (st : Stage) (s : State) :
    (closeStage st s).pcf = s.pcf := by cases st <;> rfl
@[simp] theorem closeStage_prev (st : Stage) (s : State) :
    (closeStage st s).prev = s.prev := by cases st <;> rfl
@[simp] theorem closeStage_pulseOpen (st : Stage) (s : State) :
    (closeStage st s).pulseOpen = s.pulseOpen := by cases st <;> rfl
@[simp] theorem closeStage_ref (st : Stage) (s : State) :
    (closeStage st s).ref = s.ref := by cases st <;> rfl
@[simp] theorem closeStage_mbVal (st : Stage) (s : State) :
    (closeStage st s).mbVal = s.mbVal := by cases st <;> rfl
@[simp] theorem closeStage_mbSeq (st : Stage) (s : State) :
    (closeStage st s).mbSeq = s.mbSeq := by cases st <;> rfl
@[simp] theorem closeStage_mbNe (st : Stage) (s : State) :
    (closeStage st s).mbNe = s.mbNe := by cases st <;> rfl
@[simp] theorem closeStage_pubv (st : Stage) (s : State) :
    (closeStage st s).pubv = s.pubv := by cases st <;> rfl
@[simp] theorem closeStage_pubp (st : Stage) (s : State) :
    (closeStage st s).pubp = s.pubp := by cases st <;> rfl
@[simp] theorem closeStage_tkp (st : Stage) (s : State) :
    (closeStage st s).tkp = s.tkp := by cases st <;> rfl
@[simp] theorem closeStage_tks1 (st : Stage) (s : State) :
    (closeStage st s).tks1 = s.tks1 := by cases st <;> rfl
@[simp] theorem closeStage_tkv (st : Stage) (s : State) :
    (closeStage st s).tkv = s.tkv := by cases st <;> rfl
@[simp] theorem closeStage_tkne (st : Stage) (s : State) :
    (closeStage st s).tkne = s.tkne := by cases st <;> rfl
@[simp] theorem closeStage_tkok (st : Stage) (s : State) :
    (closeStage st s).tkok = s.tkok := by cases st <;> rfl
@[simp] theorem closeStage_chv (st : Stage) (s : State) :
    (closeStage st s).chv = s.chv := by cases st <;> rfl
@[simp] theorem closeStage_fresh (st : Stage) (s : State) :
    (closeStage st s).fresh = s.fresh := by cases st <;> rfl
@[simp] theorem closeStage_tsRes (st : Stage) (s : State) :
    (closeStage st s).tsRes = s.tsRes := by cases st <;> rfl
@[simp] theorem closeStage_pollRes (st : Stage) (s : State) :
    (closeStage st s).pollRes = s.pollRes := by cases st <;> rfl
@[simp] theorem closeStage_calState (st : Stage) (s : State) :
    (closeStage st s).calState = s.calState := by cases st <;> rfl
@[simp] theorem closeStage_calCnt (st : Stage) (s : State) :
    (closeStage st s).calCnt = s.calCnt := by cases st <;> rfl
@[simp] theorem closeStage_cmin (st : Stage) (s : State) :
    (closeStage st s).cmin = s.cmin := by cases st <;> rfl
@[simp] theorem closeStage_cmax (st : Stage) (s : State) :
    (closeStage st s).cmax = s.cmax := by cases st <;> rfl
@[simp] theorem closeStage_cmid (st : Stage) (s : State) :
    (closeStage st s).cmid = s.cmid := by cases st <;> rfl
@[simp] theorem closeStage_thr (st : Stage) (s : State) :
    (closeStage st s).thr = s.thr := by cases st <;> rfl
@[simp] theorem closeStage_recValid (st : Stage) (s : State) :
    (closeStage st s).recValid = s.recValid := by cases st <;> rfl
@[simp] theorem closeStage_ind (st : Stage) (s : State) :
    (closeStage st s).ind = s.ind := by cases st <;> rfl
@[simp] theorem closeStage_mode (st : Stage) (s : State) :
    (closeStage st s).mode = s.mode := by cases st <;> rfl
@[simp] theorem closeStage_engSt (st : Stage) (s : State) :
    (closeStage st s).engSt = s.engSt := by cases st <;> rfl
@[simp] theorem closeStage_flt (st : Stage) (s : State) :
    (closeStage st s).flt = s.flt := by cases st <;> rfl
@[simp] theorem closeStage_tcnt1 (st : Stage) (s : State) :
    (closeStage st s).tcnt1 = s.tcnt1 := by cases st <;> rfl
@[simp] theorem closeStage_ocr1 (st : Stage) (s : State) :
    (closeStage st s).ocr1 = s.ocr1 := by cases st <;> rfl
@[simp] theorem closeStage_tov1 (st : Stage) (s : State) :
    (closeStage st s).tov1 = s.tov1 := by cases st <;> rfl
@[simp] theorem closeStage_ocf1 (st : Stage) (s : State) :
    (closeStage st s).ocf1 = s.ocf1 := by cases st <;> rfl
@[simp] theorem closeStage_hi1 (st : Stage) (s : State) :
    (closeStage st s).hi1 = s.hi1 := by cases st <;> rfl
@[simp] theorem closeStage_stage (st : Stage) (s : State) :
    (closeStage st s).stage = s.stage := by cases st <;> rfl
@[simp] theorem closeStage_run (st : Stage) (s : State) :
    (closeStage st s).run = s.run := by cases st <;> rfl
@[simp] theorem closeStage_w (st : Stage) (s : State) :
    (closeStage st s).w = s.w := by cases st <;> rfl
@[simp] theorem closeStage_nw (st : Stage) (s : State) :
    (closeStage st s).nw = s.nw := by cases st <;> rfl
@[simp] theorem closeStage_ch1En (st : Stage) (s : State) :
    (closeStage st s).ch1En = s.ch1En := by cases st <;> rfl
@[simp] theorem closeStage_ie (st : Stage) (s : State) :
    (closeStage st s).ie = s.ie := by cases st <;> rfl
@[simp] theorem closeStage_pcie (st : Stage) (s : State) :
    (closeStage st s).pcie = s.pcie := by cases st <;> rfl
@[simp] theorem closeStage_toie0 (st : Stage) (s : State) :
    (closeStage st s).toie0 = s.toie0 := by cases st <;> rfl
@[simp] theorem closeStage_toie1 (st : Stage) (s : State) :
    (closeStage st s).toie1 = s.toie1 := by cases st <;> rfl
@[simp] theorem closeStage_ocie1 (st : Stage) (s : State) :
    (closeStage st s).ocie1 = s.ocie1 := by cases st <;> rfl
@[simp] theorem closeStage_nvm (st : Stage) (s : State) :
    (closeStage st s).nvm = s.nvm := by cases st <;> rfl
@[simp] theorem closeStage_params (st : Stage) (s : State) :
    (closeStage st s).params = s.params := by cases st <;> rfl
@[simp] theorem closeStage_stream (st : Stage) (s : State) :
    (closeStage st s).stream = s.stream := by cases st <;> rfl

/-! ### activate -/

@[simp] theorem activate_cnt0 (s : State) : (activate s).cnt0 = s.cnt0 := rfl
@[simp] theorem activate_tov0 (s : State) : (activate s).tov0 = s.tov0 := rfl
@[simp] theorem activate_ticks (s : State) : (activate s).ticks = s.ticks := rfl
@[simp] theorem activate_pins (s : State) : (activate s).pins = s.pins := rfl
@[simp] theorem activate_pcf (s : State) : (activate s).pcf = s.pcf := rfl
@[simp] theorem activate_prev (s : State) : (activate s).prev = s.prev := rfl
@[simp] theorem activate_pulseOpen (s : State) : (activate s).pulseOpen = s.pulseOpen := rfl
@[simp] theorem activate_ref (s : State) : (activate s).ref = s.ref := rfl
@[simp] theorem activate_mbVal (s : State) : (activate s).mbVal = s.mbVal := rfl
@[simp] theorem activate_mbSeq (s : State) : (activate s).mbSeq = s.mbSeq := rfl
@[simp] theorem activate_mbNe (s : State) : (activate s).mbNe = s.mbNe := rfl
@[simp] theorem activate_pubv (s : State) : (activate s).pubv = s.pubv := rfl
@[simp] theorem activate_pubp (s : State) : (activate s).pubp = s.pubp := rfl
@[simp] theorem activate_tkp (s : State) : (activate s).tkp = s.tkp := rfl
@[simp] theorem activate_tks1 (s : State) : (activate s).tks1 = s.tks1 := rfl
@[simp] theorem activate_tkv (s : State) : (activate s).tkv = s.tkv := rfl
@[simp] theorem activate_tkne (s : State) : (activate s).tkne = s.tkne := rfl
@[simp] theorem activate_tkok (s : State) : (activate s).tkok = s.tkok := rfl
@[simp] theorem activate_chv (s : State) : (activate s).chv = s.chv := rfl
@[simp] theorem activate_fresh (s : State) : (activate s).fresh = s.fresh := rfl
@[simp] theorem activate_tsRes (s : State) : (activate s).tsRes = s.tsRes := rfl
@[simp] theorem activate_pollRes (s : State) : (activate s).pollRes = s.pollRes := rfl
@[simp] theorem activate_calState (s : State) : (activate s).calState = s.calState := rfl
@[simp] theorem activate_calCnt (s : State) : (activate s).calCnt = s.calCnt := rfl
@[simp] theorem activate_cmin (s : State) : (activate s).cmin = s.cmin := rfl
@[simp] theorem activate_cmax (s : State) : (activate s).cmax = s.cmax := rfl
@[simp] theorem activate_cmid (s : State) : (activate s).cmid = s.cmid := rfl
@[simp] theorem activate_thr (s : State) : (activate s).thr = s.thr := rfl
@[simp] theorem activate_recValid (s : State) : (activate s).recValid = s.recValid := rfl
@[simp] theorem activate_ind (s : State) : (activate s).ind = s.ind := rfl
@[simp] theorem activate_mode (s : State) : (activate s).mode = s.mode := rfl
@[simp] theorem activate_engSt (s : State) : (activate s).engSt = .active := rfl
@[simp] theorem activate_flt (s : State) : (activate s).flt = s.flt := rfl
@[simp] theorem activate_tcnt1 (s : State) : (activate s).tcnt1 = s.tcnt1 := rfl
@[simp] theorem activate_ocr1 (s : State) : (activate s).ocr1 = s.ocr1 := rfl
@[simp] theorem activate_tov1 (s : State) : (activate s).tov1 = s.tov1 := rfl
@[simp] theorem activate_ocf1 (s : State) : (activate s).ocf1 = s.ocf1 := rfl
@[simp] theorem activate_hi1 (s : State) : (activate s).hi1 = s.hi1 := rfl
@[simp] theorem activate_stage (s : State) : (activate s).stage = s.stage := rfl
@[simp] theorem activate_run (s : State) : (activate s).run = s.run := rfl
@[simp] theorem activate_w (s : State) : (activate s).w = s.w := rfl
@[simp] theorem activate_nw (s : State) : (activate s).nw = s.nw := rfl
@[simp] theorem activate_ch1En (s : State) : (activate s).ch1En = s.ch1En := rfl
@[simp] theorem activate_outDone (s : State) : (activate s).outDone = s.outDone := rfl
@[simp] theorem activate_out (s : State) : (activate s).out = s.out := rfl
@[simp] theorem activate_ie (s : State) : (activate s).ie = true := rfl
@[simp] theorem activate_pcie (s : State) : (activate s).pcie = true := rfl
@[simp] theorem activate_toie0 (s : State) : (activate s).toie0 = true := rfl
@[simp] theorem activate_toie1 (s : State) : (activate s).toie1 = s.toie1 := rfl
@[simp] theorem activate_ocie1 (s : State) : (activate s).ocie1 = s.ocie1 := rfl
@[simp] theorem activate_nvm (s : State) : (activate s).nvm = s.nvm := rfl
@[simp] theorem activate_params (s : State) : (activate s).params = s.params := rfl
@[simp] theorem activate_stream (s : State) : (activate s).stream = s.stream := rfl

end Sys2Proof.Machine
end

