-- ==== Sys2Proof/Laws/Memory.lean ====
section
/-! SUPPORT. The laws of the non-volatile record: reading what was written, the canonical form kept by
every write, the reset store's form, and the fields that Finish writes. -/

namespace Sys2Proof.Machine

/-! ### One byte -/

/-- Below every listed offset the store reads as unlisted. -/
theorem cellRead_of_lt {lo a : Nat} {m : Memory} (hm : wfFrom lo m = true) (h : a < lo) :
    cellRead m a = unlistedByte := by
  induction m generalizing lo with
  | nil => rfl
  | cons e rest ih =>
    obtain ⟨k, v⟩ := e
    simp only [wfFrom, Bool.and_eq_true, decide_eq_true_eq] at hm
    rw [cellRead, if_neg (by omega), ih hm.2 (by omega)]

/-- A write leaves every other offset alone. -/
theorem cellRead_cellWrite_of_ne (m : Memory) {a x : Nat} (b : Byte) (h : x ≠ a) :
    cellRead (cellWrite m a b) x = cellRead m x := by
  induction m with
  | nil => simp only [cellWrite]; split <;> simp [cellRead, Ne.symm h]
  | cons e rest ih =>
    obtain ⟨k, v⟩ := e
    simp only [cellWrite]
    split
    · split
      · rfl
      · simp [cellRead, Ne.symm h]
    · split
      · subst_vars; split <;> simp [cellRead, Ne.symm h]
      · simp only [cellRead, ih]

/-- A write is read back, in a store in canonical form. -/
theorem cellRead_cellWrite_same {lo : Nat} {m : Memory} (hm : wfFrom lo m = true) (a : Nat)
    (b : Byte) : cellRead (cellWrite m a b) a = b := by
  induction m generalizing lo with
  | nil => simp only [cellWrite]; split <;> simp_all [cellRead]
  | cons e rest ih =>
    obtain ⟨k, v⟩ := e
    simp only [wfFrom, Bool.and_eq_true, decide_eq_true_eq] at hm
    simp only [cellWrite]
    split
    · split
      · rw [cellRead, if_neg (by omega), cellRead_of_lt hm.2 (by omega)]; simp_all
      · simp [cellRead]
    · split
      · subst_vars
        split
        · rw [cellRead_of_lt hm.2 (by omega)]; simp_all
        · simp [cellRead]
      · rw [cellRead, if_neg (by omega), ih hm.2]

/-- A store whose offsets start at `hi` has offsets that start at any smaller bound. -/
theorem wfFrom_mono {lo hi : Nat} {m : Memory} (hm : wfFrom hi m = true) (h : lo ≤ hi) :
    wfFrom lo m = true := by
  cases m with
  | nil => rfl
  | cons e rest =>
    obtain ⟨k, v⟩ := e
    simp only [wfFrom, Bool.and_eq_true, decide_eq_true_eq] at hm ⊢
    exact ⟨⟨⟨by omega, hm.1.1.2⟩, hm.1.2⟩, hm.2⟩

/-- A write of an offset that exists keeps the canonical form. -/
theorem wfFrom_cellWrite {lo : Nat} {m : Memory} (hm : wfFrom lo m = true) {a : Nat} (b : Byte)
    (h : lo ≤ a) (h13 : a < 13) : wfFrom lo (cellWrite m a b) = true := by
  induction m generalizing lo with
  | nil => simp only [cellWrite]; split <;> simp_all [wfFrom]
  | cons e rest ih =>
    obtain ⟨k, v⟩ := e
    have hw : wfFrom lo ((k, v) :: rest) = true := hm
    simp only [wfFrom, Bool.and_eq_true, decide_eq_true_eq, bne_iff_ne, ne_eq] at hm
    obtain ⟨⟨⟨h1, h2⟩, h3⟩, h4⟩ := hm
    simp only [cellWrite]
    split
    · split
      · exact hw
      · simp [wfFrom, *]
    · split
      · subst_vars
        split
        · exact wfFrom_mono h4 (by omega)
        · simp [wfFrom, *]
      · simp [wfFrom, *, ih h4 (by omega : k + 1 ≤ a)]

/-- R44: `NvmWrite` sets the byte. -/
theorem nvmRead_nvmWrite_same {m : Memory} (hm : m.wf = true) (i : Fin 13) (b : Byte) :
    nvmRead (nvmWrite m i b) i = b := cellRead_cellWrite_same hm i.val b

/-- R44: `NvmWrite` changes nothing else. -/
theorem nvmRead_nvmWrite_of_ne (m : Memory) {i x : Fin 13} (b : Byte) (h : x ≠ i) :
    nvmRead (nvmWrite m i b) x = nvmRead m x :=
  cellRead_cellWrite_of_ne m b (fun e => h (Fin.ext e))

/-- Every write keeps the canonical form. -/
theorem wf_nvmWrite {m : Memory} (hm : m.wf = true) (i : Fin 13) (b : Byte) :
    (nvmWrite m i b).wf = true := wfFrom_cellWrite hm b (Nat.zero_le _) i.isLt

/-- Both laws of a byte write at once: what is read at `x` after a write at `i`. -/
theorem nvmRead_nvmWrite {m : Memory} (hm : m.wf = true) (i x : Fin 13) (b : Byte) :
    nvmRead (nvmWrite m i b) x = if x = i then b else nvmRead m x := by
  split
  · subst_vars; exact nvmRead_nvmWrite_same hm _ b
  · exact nvmRead_nvmWrite_of_ne m b ‹_›

/-- The store right after reset is in canonical form. -/
theorem wf_reset : State.reset.nvm.wf = true := rfl

/-! ### Fields and the whole record -/

/-- A field write keeps the canonical form. -/
theorem wf_nvmWriteWord {m : Memory} (hm : m.wf = true) (lo hi : Fin 13) (v : Word) :
    (nvmWriteWord m lo hi v).wf = true := wf_nvmWrite (wf_nvmWrite hm _ _) _ _

/-- What is read at `x` after a field write: the low byte at the lower offset (R38). -/
theorem nvmRead_nvmWriteWord {m : Memory} (hm : m.wf = true) (lo hi x : Fin 13) (v : Word) :
    nvmRead (nvmWriteWord m lo hi v) x =
      if x = hi then highByte v else if x = lo then lowByte v else nvmRead m x := by
  rw [nvmWriteWord, nvmRead_nvmWrite (wf_nvmWrite hm _ _), nvmRead_nvmWrite hm]

/-- The three fields of a channel keep the canonical form. -/
theorem wf_writeFields {m : Memory} (hm : m.wf = true) (c : Ch) (min max mid : Word) :
    (writeFields m c min max mid).wf = true := by
  cases c <;> exact wf_nvmWriteWord (wf_nvmWriteWord (wf_nvmWriteWord hm _ _ _) _ _ _) _ _ _

/-- Finish keeps the canonical form. -/
theorem wf_writeRecord {m : Memory} (hm : m.wf = true) (seed : Byte) (min max mid : Chan Word) :
    (writeRecord seed m min max mid).wf = true :=
  wf_nvmWrite (wf_writeFields (wf_writeFields hm _ _ _ _) _ _ _ _) _ _

/-- The byte that R38 places at an offset below 12. -/
def recordByte (min max mid : Chan Word) : Fin 13 → Byte
  | 0 => lowByte min.c0
  | 1 => highByte min.c0
  | 2 => lowByte max.c0
  | 3 => highByte max.c0
  | 4 => lowByte mid.c0
  | 5 => highByte mid.c0
  | 6 => lowByte min.c1
  | 7 => highByte min.c1
  | 8 => lowByte max.c1
  | 9 => highByte max.c1
  | 10 => lowByte mid.c1
  | 11 => highByte mid.c1
  | 12 => 0#8

/-- The data bytes of the record before the checksum is written. -/
theorem nvmRead_writeFields {m : Memory} (hm : m.wf = true) (min max mid : Chan Word) (x : Fin 13)
    (hx : x ≠ 12) :
    nvmRead (writeFields (writeFields m .ch0 min.c0 max.c0 mid.c0) .ch1 min.c1 max.c1 mid.c1) x =
      recordByte min max mid x := by
  have h0 := wf_nvmWriteWord hm 0 1 min.c0
  have h1 := wf_nvmWriteWord h0 2 3 max.c0
  have h2 := wf_nvmWriteWord h1 4 5 mid.c0
  have h3 := wf_nvmWriteWord h2 6 7 min.c1
  have h4 := wf_nvmWriteWord h3 8 9 max.c1
  simp only [writeFields]
  rw [nvmRead_nvmWriteWord h4, nvmRead_nvmWriteWord h3, nvmRead_nvmWriteWord h2,
    nvmRead_nvmWriteWord h1, nvmRead_nvmWriteWord h0, nvmRead_nvmWriteWord hm]
  fin_cases x <;> first | rfl | exact absurd rfl hx

/-- R38, R87: every data byte that Finish leaves in the store. -/
theorem nvmRead_writeRecord {m : Memory} (hm : m.wf = true) (seed : Byte) (min max mid : Chan Word)
    (x : Fin 13) (hx : x ≠ 12) :
    nvmRead (writeRecord seed m min max mid) x = recordByte min max mid x := by
  rw [writeRecord, nvmRead_nvmWrite_of_ne _ _ hx, nvmRead_writeFields hm _ _ _ _ hx]

/-- The sum over the data bytes does not read the checksum byte. -/
theorem nvmSum_nvmWrite_12 (m : Memory) (b : Byte) (n : Nat) (h : n ≤ 12) :
    nvmSum (nvmWrite m 12 b) n = nvmSum m n := by
  induction n with
  | zero => rfl
  | succ n ih =>
    have hr : cellRead (nvmWrite m 12 b) n = cellRead m n :=
      cellRead_cellWrite_of_ne m b (by show n ≠ 12; omega)
    rw [nvmSum, nvmSum, ih (by omega), hr]

/-- R39, R87: the record that Finish leaves in the store is valid. -/
theorem recordValid_writeRecord {m : Memory} (hm : m.wf = true) (seed : Byte)
    (min max mid : Chan Word) : recordValid seed (writeRecord seed m min max mid) = true := by
  have hw := wf_writeFields (wf_writeFields hm .ch0 min.c0 max.c0 mid.c0) .ch1 min.c1 max.c1 mid.c1
  simp only [recordValid, writeRecord, beq_iff_eq, nvmRead_nvmWrite_same hw, checksum,
    nvmSum_nvmWrite_12 _ _ 12 (Nat.le_refl _)]

/-- R39: the validity the model computes is the formula of the rule. -/
theorem recordValid_iff (s : State) :
    recordValid s.params.chkSeed s.nvm = true ↔ ChecksumAgrees s := by
  simp only [recordValid, checksum, beq_iff_eq, ChecksumAgrees, ← BitVec.toNat_inj,
    BitVec.toNat_ofNat, nvmSum]
  simp only [nvmRead, Nat.zero_add]
  rfl

end Sys2Proof.Machine
end

