-- ==== Sys2Proof/Laws/Operands.lean ====
section
/-! SUPPORT. The laws of the bytes of a 16-bit value and of the operand forms: splitting and joining are
inverse, and an operand form reads exactly the bytes that spell its operand. -/

namespace Sys2Proof.Machine

/-! ### Bytes of a 16-bit value -/

@[simp] theorem lowByte_joinBytes (lo hi : Byte) : lowByte (joinBytes lo hi) = lo := by
  ext i h
  simp only [lowByte, joinBytes, BitVec.getElem_extractLsb', Nat.zero_add, BitVec.getLsbD_append, h,
    if_true, BitVec.getLsbD_eq_getElem h]

@[simp] theorem highByte_joinBytes (lo hi : Byte) : highByte (joinBytes lo hi) = hi := by
  ext i h
  have h8 : ¬ 8 + i < 8 := by omega
  simp only [highByte, joinBytes, BitVec.getElem_extractLsb', BitVec.getLsbD_append, h8,
    if_false, Nat.add_sub_cancel_left, BitVec.getLsbD_eq_getElem h]

/-- A 16-bit value is its two bytes (R7). -/
theorem toNat_joinBytes (lo hi : Byte) : (joinBytes lo hi).toNat = 256 * hi.toNat + lo.toNat := by
  simp only [joinBytes, BitVec.toNat_append]
  rw [Nat.shiftLeft_eq, Nat.mul_comm, ← Nat.two_pow_add_eq_or_of_lt lo.isLt]

/-- The bytes of a value, as numbers. -/
theorem toNat_lowByte (v : Word) : (lowByte v).toNat = v.toNat % 256 := by
  simp [lowByte, BitVec.extractLsb'_toNat]

theorem toNat_highByte (v : Word) : (highByte v).toNat = v.toNat / 256 := by
  have := v.isLt
  simp only [highByte, BitVec.extractLsb'_toNat, Nat.shiftRight_eq_div_pow]
  omega

@[simp] theorem joinBytes_lowByte_highByte (v : Word) : joinBytes (lowByte v) (highByte v) = v := by
  apply BitVec.eq_of_toNat_eq
  rw [toNat_joinBytes, toNat_lowByte, toNat_highByte]
  omega

@[simp] theorem lowByte_setLowByte (v : Word) (b : Byte) : lowByte (setLowByte v b) = b := by
  simp [setLowByte]

@[simp] theorem highByte_setLowByte (v : Word) (b : Byte) :
    highByte (setLowByte v b) = highByte v := by
  simp [setLowByte]

@[simp] theorem lowByte_setHighByte (v : Word) (b : Byte) :
    lowByte (setHighByte v b) = lowByte v := by
  simp [setHighByte]

@[simp] theorem highByte_setHighByte (v : Word) (b : Byte) : highByte (setHighByte v b) = b := by
  simp [setHighByte]

/-- Two values with the same bytes are equal. -/
theorem eq_of_bytes {u v : Word} (hl : lowByte u = lowByte v) (hh : highByte u = highByte v) :
    u = v := by
  rw [← joinBytes_lowByte_highByte u, hl, hh, joinBytes_lowByte_highByte]

/-! ### Operand forms -/

theorem boolOperand_iff (a : Byte) (e : Bool) : boolOperand a = some e ↔ a = boolByte e := by
  revert a e; decide

theorem chOperand_iff (a : Byte) (c : Ch) : chOperand a = some c ↔ a = chByte c := by
  revert a; cases c <;> decide

theorem levelsOperand_iff (a : Byte) (lv : BitVec 2) :
    levelsOperand a = some lv ↔ a = levelsByte lv := by
  revert a lv; decide

@[simp] theorem boolOperand_boolByte (e : Bool) : boolOperand (boolByte e) = some e :=
  (boolOperand_iff _ _).2 rfl

@[simp] theorem chOperand_chByte (c : Ch) : chOperand (chByte c) = some c :=
  (chOperand_iff _ _).2 rfl

@[simp] theorem levelsOperand_levelsByte (lv : BitVec 2) :
    levelsOperand (levelsByte lv) = some lv := (levelsOperand_iff _ _).2 rfl

end Sys2Proof.Machine
end

