-- ==== Sys2Proof/Laws/Ops.lean ====
section
/-! SUPPORT. The laws of the shared operations other than memory: the timestamp, taking an interrupt,
the width request, and the steps of a publish and of a take. Each says once what the operation can do. -/

namespace Sys2Proof.Machine

/-! ### Interrupts (R122, R124) -/

/-- R122: eligible means enabled twice, pending, and no publish in flight. -/
theorem eligible_iff (s : State) (src : Source) :
    eligible s src = true ↔
      s.ie = true ∧ enabled s src = true ∧ pending s src = true ∧ intActive s = false := by
  simp [eligible, and_assoc]

/-- A source fails one of the four conditions exactly when it is not eligible. -/
theorem not_eligible_iff (s : State) (src : Source) :
    eligible s src = false ↔
      s.ie = false ∨ enabled s src = false ∨ pending s src = false ∨ intActive s = true := by
  rw [← Bool.not_eq_true, eligible_iff]
  cases s.ie <;> cases enabled s src <;> cases pending s src <;> cases intActive s <;> simp

/-- R33: no publish in flight means both phases idle. -/
theorem intActive_eq_false_iff (s : State) :
    intActive s = false ↔ s.pubp.c0 = .idle ∧ s.pubp.c1 = .idle := by
  simp [intActive]

/-- R124: an eligible source's handler clears its flag and runs its body. -/
theorem takeInterrupt_of_eligible {s : State} {src : Source} (body : State → State)
    (h : eligible s src = true) : takeInterrupt src body s = body (clearPending s src) :=
  if_pos h

/-- R122: the handler of a source that is not eligible has no effect. -/
theorem takeInterrupt_of_not_eligible {s : State} {src : Source} (body : State → State)
    (h : eligible s src = false) : takeInterrupt src body s = s := by
  simp [takeInterrupt, h]

/-- Taking an interrupt keeps what clearing the flag and the body keep. -/
theorem takeInterrupt_induct {P : State → Prop} {s : State} (src : Source) (body : State → State)
    (hs : P s) (hb : eligible s src = true → P (body (clearPending s src))) :
    P (takeInterrupt src body s) := by
  unfold takeInterrupt
  split
  · exact hb ‹_›
  · exact hs

/-! ### The timestamp (R61) -/

/-- R61: the value of `Now()`. -/
theorem toNat_now (s : State) :
    (now s).toNat = 256 * ((s.ticks.toNat + s.tov0.toNat) % 256) + s.cnt0.toNat := by
  rw [now, toNat_joinBytes]
  cases s.tov0 <;> simp [BitVec.toNat_add, Nat.mod_eq_of_lt s.ticks.isLt]

/-- `Now()` reads three registers only. -/
theorem now_congr {s t : State} (hc : t.cnt0 = s.cnt0) (ho : t.tov0 = s.tov0)
    (ht : t.ticks = s.ticks) : now t = now s := by
  simp only [now, hc, ho, ht]

/-! ### The width request (R102) -/

/-- R102: all that SetW can do. -/
theorem setW_cases (a b : Word) (s : State) :
    (a.toNat + b.toNat ≤ Config.outPeriod ∧ setW a b s = { s with nw := ⟨a, b⟩ }) ∨
    (a.toNat + b.toNat > Config.outPeriod ∧ setW a b s = { s with flt := s.flt ||| 0b100#3 }) := by
  unfold setW
  split
  · exact .inr ⟨‹_›, rfl⟩
  · exact .inl ⟨by omega, rfl⟩

/-! ### The mailbox protocol (R70, R71) -/

/-- R68: odd is odd. -/
theorem seqOdd_eq_true_iff (x : Byte) : seqOdd x = true ↔ x.toNat % 2 = 1 := by
  revert x; decide

theorem seqOdd_eq_false_iff (x : Byte) : seqOdd x = false ↔ x.toNat % 2 = 0 := by
  revert x; decide

@[simp] theorem seqOdd_add_one (x : Byte) : seqOdd (x + 1#8) = !seqOdd x := by
  revert x; decide

/-- R70: all that a publish step can do. -/
theorem pubStepOp_cases (c : Ch) (s : State) :
    (s.pubp.get c = .idle ∧ pubStepOp c s = s) ∨
    (s.pubp.get c = .p1 ∧ pubStepOp c s =
      { s with mbSeq := s.mbSeq.set c (s.mbSeq.get c + 1#8), pubp := s.pubp.set c .p2 }) ∨
    (s.pubp.get c = .p2 ∧ pubStepOp c s =
      { s with mbVal := s.mbVal.set c (setLowByte (s.mbVal.get c) (lowByte (s.pubv.get c)))
               pubp := s.pubp.set c .p3 }) ∨
    (s.pubp.get c = .p3 ∧ pubStepOp c s =
      { s with mbVal := s.mbVal.set c (setHighByte (s.mbVal.get c) (highByte (s.pubv.get c)))
               pubp := s.pubp.set c .p4 }) ∨
    (s.pubp.get c = .p4 ∧ pubStepOp c s =
      { s with mbNe := s.mbNe.set c true, pubp := s.pubp.set c .p5 }) ∨
    (s.pubp.get c = .p5 ∧ pubStepOp c s =
      { s with mbSeq := s.mbSeq.set c (s.mbSeq.get c + 1#8), pubp := s.pubp.set c .idle }) := by
  cases h : s.pubp.get c <;> simp [pubStepOp, h]

/-- R71: all that a take step can do. -/
theorem takeStepOp_cases (c : Ch) (s : State) :
    (s.tkp.get c = .idle ∧ seqOdd (s.mbSeq.get c) = true ∧ takeStepOp c s =
      { s with tks1 := s.tks1.set c (s.mbSeq.get c), tkok := s.tkok.set c false }) ∨
    (s.tkp.get c = .idle ∧ seqOdd (s.mbSeq.get c) = false ∧ takeStepOp c s =
      { s with tks1 := s.tks1.set c (s.mbSeq.get c), tkp := s.tkp.set c .t2 }) ∨
    (s.tkp.get c = .t2 ∧ takeStepOp c s =
      { s with tkv := s.tkv.set c (setLowByte (s.tkv.get c) (lowByte (s.mbVal.get c)))
               tkp := s.tkp.set c .t3 }) ∨
    (s.tkp.get c = .t3 ∧ takeStepOp c s =
      { s with tkv := s.tkv.set c (setHighByte (s.tkv.get c) (highByte (s.mbVal.get c)))
               tkp := s.tkp.set c .t4 }) ∨
    (s.tkp.get c = .t4 ∧ takeStepOp c s =
      { s with tkne := s.tkne.set c (s.mbNe.get c), tkp := s.tkp.set c .t5 }) ∨
    (s.tkp.get c = .t5 ∧ (s.tkne.get c = true ∧ s.mbSeq.get c = s.tks1.get c) ∧
      takeStepOp c s = { s with tkp := s.tkp.set c .t6 }) ∨
    (s.tkp.get c = .t5 ∧ ¬(s.tkne.get c = true ∧ s.mbSeq.get c = s.tks1.get c) ∧
      takeStepOp c s = { s with tkok := s.tkok.set c false, tkp := s.tkp.set c .idle }) ∨
    (s.tkp.get c = .t6 ∧ takeStepOp c s =
      { s with mbNe := s.mbNe.set c false
               chv := s.chv.set c (s.tkv.get c)
               fresh := s.fresh.set c true
               tkok := s.tkok.set c true
               tkp := s.tkp.set c .idle }) := by
  unfold takeStepOp
  cases h : s.tkp.get c
  · cases seqOdd (s.mbSeq.get c) <;> simp
  · simp
  · simp
  · simp
  · by_cases h5 : s.tkne.get c = true ∧ s.mbSeq.get c = s.tks1.get c <;> simp [h5]
  · simp

/-- What a publish step writes at all. -/
theorem pubStepOp_frame (c : Ch) (s : State) :
    pubStepOp c s = { s with mbVal := (pubStepOp c s).mbVal, mbSeq := (pubStepOp c s).mbSeq
                             mbNe := (pubStepOp c s).mbNe, pubp := (pubStepOp c s).pubp } := by
  rcases pubStepOp_cases c s with ⟨_, h⟩ | ⟨_, h⟩ | ⟨_, h⟩ | ⟨_, h⟩ | ⟨_, h⟩ | ⟨_, h⟩ <;> rw [h]

/-- What a take step writes at all. -/
theorem takeStepOp_frame (c : Ch) (s : State) :
    takeStepOp c s =
      { s with tks1 := (takeStepOp c s).tks1, tkok := (takeStepOp c s).tkok
               tkp := (takeStepOp c s).tkp, tkv := (takeStepOp c s).tkv
               tkne := (takeStepOp c s).tkne, mbNe := (takeStepOp c s).mbNe
               chv := (takeStepOp c s).chv, fresh := (takeStepOp c s).fresh } := by
  rcases takeStepOp_cases c s with ⟨_, _, h⟩ | ⟨_, _, h⟩ | ⟨_, h⟩ | ⟨_, h⟩ | ⟨_, h⟩ | ⟨_, _, h⟩ |
    ⟨_, _, h⟩ | ⟨_, h⟩ <;> rw [h]

/-- What every take step keeps, a whole take keeps (R72). -/
theorem takeUntilIdle_induct {P : State → Prop} (c : Ch)
    (hstep : ∀ s, P s → P (takeStepOp c s)) (n : Nat) (s : State) (hs : P s) :
    P (takeUntilIdle n c s) := by
  induction n generalizing s with
  | zero => exact hs
  | succ n ih =>
    unfold takeUntilIdle
    dsimp only
    split
    · exact hstep s hs
    · exact ih _ (hstep s hs)

/-- What a whole take writes at all. -/
theorem takeUntilIdle_frame (n : Nat) (c : Ch) (s : State) :
    takeUntilIdle n c s =
      { s with tks1 := (takeUntilIdle n c s).tks1, tkok := (takeUntilIdle n c s).tkok
               tkp := (takeUntilIdle n c s).tkp, tkv := (takeUntilIdle n c s).tkv
               tkne := (takeUntilIdle n c s).tkne, mbNe := (takeUntilIdle n c s).mbNe
               chv := (takeUntilIdle n c s).chv, fresh := (takeUntilIdle n c s).fresh } := by
  refine takeUntilIdle_induct (P := fun t => t =
      { s with tks1 := t.tks1, tkok := t.tkok, tkp := t.tkp, tkv := t.tkv, tkne := t.tkne
               mbNe := t.mbNe, chv := t.chv, fresh := t.fresh }) c ?_ n s rfl
  intro t h
  rw [takeStepOp_frame, h]

/-! ### The edge logic of CAPTURE (R77) -/

/-- R78: a channel's part of the handler touches no other channel. -/
theorem captureChannel_other (t : Word) (l : Bool) (s : State) {c d : Ch} (h : d ≠ c) :
    (captureChannel t c l s).prev.get d = s.prev.get d ∧
    (captureChannel t c l s).pulseOpen.get d = s.pulseOpen.get d ∧
    (captureChannel t c l s).ref.get d = s.ref.get d ∧
    (captureChannel t c l s).pubv.get d = s.pubv.get d ∧
    (captureChannel t c l s).pubp.get d = s.pubp.get d := by
  unfold captureChannel
  cases s.prev.get c <;> cases l <;> dsimp only
  · simp [Chan_get_set_of_ne, h]
  · simp [Chan_get_set_of_ne, h]
  · cases s.pulseOpen.get c <;> simp [Chan_get_set_of_ne, h, startPublish]
  · simp [Chan_get_set_of_ne, h]

/-- R77: what a channel's part of the handler does to that channel. -/
theorem captureChannel_same (t : Word) (c : Ch) (l : Bool) (s : State) :
    (captureChannel t c l s).prev.get c = l ∧
    (captureChannel t c l s).ref.get c =
      (if s.prev.get c = false ∧ l = true then t else s.ref.get c) ∧
    (captureChannel t c l s).pulseOpen.get c =
      (if s.prev.get c = false ∧ l = true then true
       else if s.prev.get c = true ∧ l = false then false else s.pulseOpen.get c) ∧
    (captureChannel t c l s).pubv.get c =
      (if s.prev.get c = true ∧ l = false ∧ s.pulseOpen.get c = true then t - s.ref.get c
       else s.pubv.get c) ∧
    (captureChannel t c l s).pubp.get c =
      (if s.prev.get c = true ∧ l = false ∧ s.pulseOpen.get c = true then .p1
       else s.pubp.get c) := by
  unfold captureChannel
  cases s.prev.get c <;> cases l <;> dsimp only
  · simp
  · simp
  · cases ho : s.pulseOpen.get c <;> simp [ho, startPublish]
  · simp

/-- What the handler writes at all. -/
theorem captureChannel_frame (t : Word) (c : Ch) (l : Bool) (s : State) :
    captureChannel t c l s =
      { s with prev := (captureChannel t c l s).prev
               pulseOpen := (captureChannel t c l s).pulseOpen
               ref := (captureChannel t c l s).ref
               pubv := (captureChannel t c l s).pubv
               pubp := (captureChannel t c l s).pubp } := by
  unfold captureChannel
  cases s.prev.get c <;> cases l <;> dsimp only
  cases s.pulseOpen.get c <;> rfl

end Sys2Proof.Machine
end

