-- ==== Sys2Proof/Laws/Calibration.lean ====
section
/-! SUPPORT. The laws of the calibration procedures: all that one sample can do, the values that Finish
derives, and the fields that a sample leaves alone. -/

namespace Sys2Proof.Machine

/-- R81, R84 to R88: all that CalSample can do. -/
theorem calSampleOp_cases (c : Ch) (w : Word) (s : State) :
    ((s.calState = .done ∨ c ≠ calActive s.calState) ∧ calSampleOp c w s = s) ∨
    (c = calActive s.calState ∧ calKind s.calState = .high ∧ w > s.cmax.get c ∧
      calSampleOp c w s = { s with cmax := s.cmax.set c w, calCnt := 0#16 }) ∨
    (c = calActive s.calState ∧
      (calKind s.calState = .high ∧ ¬w > s.cmax.get c ∨ calKind s.calState = .low ∧ ¬w < s.cmin.get c) ∧
      ¬s.calCnt.toNat + 1 > s.params.calThresh.val ∧
      calSampleOp c w s = { s with calCnt := s.calCnt + 1#16 }) ∨
    (c = calActive s.calState ∧ calKind s.calState = .high ∧ ¬w > s.cmax.get c ∧
      s.calCnt.toNat + 1 > s.params.calThresh.val ∧
      calSampleOp c w s = { s with calCnt := 0#16, calState := calNext s.calState }) ∨
    (c = calActive s.calState ∧ calKind s.calState = .low ∧ w < s.cmin.get c ∧
      calSampleOp c w s = { s with cmin := s.cmin.set c w, calCnt := 0#16 }) ∨
    (c = calActive s.calState ∧ s.calState = .c0Low ∧ ¬w < s.cmin.get c ∧
      s.calCnt.toNat + 1 > s.params.calThresh.val ∧
      calSampleOp c w s = { s with calCnt := 0#16, calState := .waitB }) ∨
    (c = calActive s.calState ∧ s.calState = .c1Low ∧ ¬w < s.cmin.get c ∧
      s.calCnt.toNat + 1 > s.params.calThresh.val ∧
      calSampleOp c w s = finish { s with calCnt := 0#16 }) ∨
    (c = calActive s.calState ∧ calKind s.calState = .wait ∧
      ¬s.calCnt.toNat + 1 ≥ s.params.calWait ∧
      calSampleOp c w s = { s with calCnt := s.calCnt + 1#16 }) ∨
    (c = calActive s.calState ∧ calKind s.calState = .wait ∧
      s.calCnt.toNat + 1 ≥ s.params.calWait ∧
      calSampleOp c w s =
        { s with calCnt := 0#16
                 calState := calNext s.calState
                 cmin := if calKind (calNext s.calState) = .low then s.cmin.set c (s.cmax.get c)
                         else s.cmin }) := by
  by_cases hc : c = calActive s.calState
  · subst hc
    cases hk : calKind s.calState
    · by_cases h1 : w > s.cmax.get (calActive s.calState) <;>
        by_cases h3 : s.calCnt.toNat + 1 > s.params.calThresh.val <;>
        simp only [calSampleOp, calHigh, calStable, hk, h1, h3, if_true, if_false] <;> simp
    · by_cases h4 : s.calCnt.toNat + 1 ≥ s.params.calWait <;>
        simp only [calSampleOp, calWaitStep, hk, h4, if_true, if_false] <;> simp
    · by_cases h2 : w < s.cmin.get (calActive s.calState) <;>
        by_cases h3 : s.calCnt.toNat + 1 > s.params.calThresh.val <;>
        cases h : s.calState <;> simp only [h, calKind, reduceCtorEq] at hk h2 <;>
        simp only [calSampleOp, calLow, calStable, calKind, h, h2, h3, if_true, if_false, calNext] <;>
        simp
    · cases h : s.calState <;> simp only [h, calKind, reduceCtorEq] at hk
      simp [calSampleOp, calKind, h]
  · left
    refine ⟨.inr hc, ?_⟩
    unfold calSampleOp
    split
    · rfl
    all_goals exact if_neg hc

/-- What a sample writes at all. -/
theorem calSampleOp_frame (c : Ch) (w : Word) (s : State) :
    calSampleOp c w s =
      { s with cmax := (calSampleOp c w s).cmax, cmin := (calSampleOp c w s).cmin
               calCnt := (calSampleOp c w s).calCnt, calState := (calSampleOp c w s).calState
               cmid := (calSampleOp c w s).cmid, thr := (calSampleOp c w s).thr
               nvm := (calSampleOp c w s).nvm, recValid := (calSampleOp c w s).recValid
               ind := (calSampleOp c w s).ind } := by
  rcases calSampleOp_cases c w s with ⟨_, h⟩ | ⟨_, _, _, h⟩ | ⟨_, _, _, h⟩ | ⟨_, _, _, _, h⟩ |
    ⟨_, _, _, h⟩ | ⟨_, _, _, _, h⟩ | ⟨_, _, _, _, h⟩ | ⟨_, _, _, h⟩ | ⟨_, _, _, h⟩ <;> (rw [h]; try rfl)

/-- R87: the mid-point of an ordered pair. -/
theorem toNat_midPoint {a b : Word} (h : a ≤ b) :
    (midPoint a b).toNat = a.toNat + (b.toNat - a.toNat) / 2 := by
  have := a.isLt
  have := b.isLt
  rw [BitVec.le_def] at h
  simp [midPoint, BitVec.toNat_add, BitVec.toNat_sub]
  omega

/-- R114: the low-throttle threshold, for any record. -/
theorem toNat_lowThrottle (a b : Word) :
    (lowThrottle a b).toNat =
      (a.toNat + (b.toNat + 65536 - a.toNat) % 65536 / 16) % 65536 := by
  have := a.isLt
  have := b.isLt
  simp [lowThrottle, BitVec.toNat_add, BitVec.toNat_sub]
  omega

/-- R87: the low-throttle threshold of an ordered pair. -/
theorem toNat_lowThrottle_of_le {a b : Word} (h : a ≤ b) :
    (lowThrottle a b).toNat = a.toNat + (b.toNat - a.toNat) / 16 := by
  have := b.isLt
  rw [BitVec.le_def] at h
  rw [toNat_lowThrottle, show (b.toNat + 65536 - a.toNat) % 65536 = b.toNat - a.toNat by omega]
  omega

end Sys2Proof.Machine
end

