-- ==== Sys2Proof/Laws/Output.lean ====
section
/-! SUPPORT. The laws of the output generator's procedures: Program, EnterStage and Expire, each with the
fields it leaves alone and what it keeps. -/

namespace Sys2Proof.Machine

/-! ### Program (R97) -/

/-- The margin is 1 to 128 (R5). -/
theorem outMargin_bounds (p : Config.Params) : 1 ≤ p.outMargin ∧ p.outMargin ≤ 128 := by
  have := p.outMarginLess1.isLt
  simp only [Config.Params.outMargin]
  omega

/-- R97: where the low byte reaches the margin the counter starts at 0. -/
theorem program_unbiased {d : Word} {s : State} (h : s.params.outMargin ≤ (lowByte d).toNat) :
    (program d s).tcnt1 = 0#8 ∧ (program d s).ocr1 = lowByte d := by
  have hb : ¬(lowByte d).toNat < s.params.outMargin := by omega
  simp [program, hb]

/-- R97: below the margin the counter starts the margin ahead. -/
theorem program_biased {d : Word} {s : State} (h : (lowByte d).toNat < s.params.outMargin) :
    (program d s).tcnt1.toNat = s.params.outMargin ∧
    (program d s).ocr1.toNat = (lowByte d).toNat + s.params.outMargin := by
  have hm := outMargin_bounds s.params
  simp only [program, h, decide_true, if_true, BitVec.toNat_add, BitVec.toNat_ofNat]
  omega

/-- R97, R107: the compare value keeps the margin. -/
theorem margin_le_program_ocr1 (d : Word) (s : State) :
    s.params.outMargin ≤ (program d s).ocr1.toNat := by
  by_cases h : (lowByte d).toNat < s.params.outMargin
  · rw [(program_biased h).2]; omega
  · rw [(program_unbiased (by omega)).2]; omega

/-- What Program writes at all. -/
theorem program_frame (d : Word) (s : State) :
    program d s = { s with tcnt1 := (program d s).tcnt1, ocr1 := (program d s).ocr1
                           hi1 := (program d s).hi1, tov1 := (program d s).tov1
                           ocf1 := (program d s).ocf1, ocie1 := (program d s).ocie1 } := rfl

/-- A second Program for the same stage changes nothing: its result does not depend on what it
overwrites. -/
theorem program_program (d e : Word) (s : State) : program d (program e s) = program d s := rfl

/-! ### EnterStage and Expire (R98, R99) -/

/-- One unfolding of EnterStage. -/
theorem enterStage_succ (n : Nat) (st : Stage) (s : State) :
    enterStage (n + 1) st s =
      if duration st (openStage st s) = 0#16 then
        enterStage n st.next (closeStage st { openStage st s with ocie1 := false })
      else program (duration st (openStage st s)) (openStage st s) := rfl

/-- What opening and closing a stage, disarming and programming keep, EnterStage keeps. -/
theorem enterStage_induct {P : State → Prop} (hopen : ∀ st s, P s → P (openStage st s))
    (hclose : ∀ st s, P s → P (closeStage st s))
    (hdisarm : ∀ s : State, P s → P { s with ocie1 := false })
    (hprogram : ∀ d s, P s → P (program d s)) (n : Nat) (st : Stage) (s : State) (hs : P s) :
    P (enterStage n st s) := by
  induction n generalizing st s with
  | zero => exact hs
  | succ n ih =>
    rw [enterStage_succ]
    split
    · exact ih _ _ (hclose _ _ (hdisarm _ (hopen _ _ hs)))
    · exact hprogram _ _ (hopen _ _ hs)

/-- What EnterStage writes at all. -/
theorem enterStage_frame (n : Nat) (st : Stage) (s : State) :
    enterStage n st s =
      { s with stage := (enterStage n st s).stage, w := (enterStage n st s).w
               out := (enterStage n st s).out, outDone := (enterStage n st s).outDone
               tcnt1 := (enterStage n st s).tcnt1, ocr1 := (enterStage n st s).ocr1
               hi1 := (enterStage n st s).hi1, tov1 := (enterStage n st s).tov1
               ocf1 := (enterStage n st s).ocf1, ocie1 := (enterStage n st s).ocie1 } := by
  refine enterStage_induct (P := fun t => t =
      { s with stage := t.stage, w := t.w, out := t.out, outDone := t.outDone, tcnt1 := t.tcnt1
               ocr1 := t.ocr1, hi1 := t.hi1, tov1 := t.tov1, ocf1 := t.ocf1
               ocie1 := t.ocie1 }) ?_ ?_ ?_ ?_ n st s rfl
  · intro st t h; rw [h]; cases st <;> rfl
  · intro st t h; rw [h]; cases st <;> rfl
  · intro t h; rw [h]
  · intro d t h; rw [h]; rfl

/-- What Expire writes at all. -/
theorem expire_frame (st : Stage) (s : State) :
    expire st s =
      { s with stage := (expire st s).stage, w := (expire st s).w, out := (expire st s).out
               outDone := (expire st s).outDone, tcnt1 := (expire st s).tcnt1
               ocr1 := (expire st s).ocr1, hi1 := (expire st s).hi1, tov1 := (expire st s).tov1
               ocf1 := (expire st s).ocf1, ocie1 := (expire st s).ocie1 } := by
  unfold expire
  rw [enterStage_frame]
  cases st <;> rfl

end Sys2Proof.Machine
end

