-- ==== Sys2Proof/Laws/Exec.lean ====
section
/-! SUPPORT. The frame of every instruction: the fields that an instruction may write when it answers a
next state. All other fields, the store and the model's own among them, are as before. Beside it, that
every legal instruction answers a next state. -/

namespace Sys2Proof.Machine

/-- What the pin-change handler's body writes at all. -/
theorem captureBody_frame (s : State) :
    captureBody s =
      { s with prev := (captureBody s).prev, pulseOpen := (captureBody s).pulseOpen
               ref := (captureBody s).ref, pubv := (captureBody s).pubv
               pubp := (captureBody s).pubp } := by
  unfold captureBody
  rw [captureChannel_frame, captureChannel_frame (now s) .ch0]

/-- R77, R78: what the handler's body does to each channel, from the one snapshot. -/
theorem captureBody_get (s : State) (c : Ch) :
    (captureBody s).prev.get c = level s.pins c ∧
    (captureBody s).ref.get c =
      (if s.prev.get c = false ∧ level s.pins c = true then now s else s.ref.get c) ∧
    (captureBody s).pulseOpen.get c =
      (if s.prev.get c = false ∧ level s.pins c = true then true
       else if s.prev.get c = true ∧ level s.pins c = false then false else s.pulseOpen.get c) ∧
    (captureBody s).pubv.get c =
      (if s.prev.get c = true ∧ level s.pins c = false ∧ s.pulseOpen.get c = true then
        now s - s.ref.get c
       else s.pubv.get c) ∧
    (captureBody s).pubp.get c =
      (if s.prev.get c = true ∧ level s.pins c = false ∧ s.pulseOpen.get c = true then .p1
       else s.pubp.get c) := by
  unfold captureBody
  cases c
  · have h1 := captureChannel_other (now s) (level s.pins .ch1)
      (captureChannel (now s) .ch0 (level s.pins .ch0) s) (c := .ch1) (d := .ch0) (by simp)
    have h2 := captureChannel_same (now s) .ch0 (level s.pins .ch0) s
    simp only [h1, h2, and_self]
  · have h1 := captureChannel_same (now s) .ch1 (level s.pins .ch1)
      (captureChannel (now s) .ch0 (level s.pins .ch0) s)
    have h2 := captureChannel_other (now s) (level s.pins .ch0) s (c := .ch0) (d := .ch1) (by simp)
    simp only [h1, h2, and_self]

/-- What MIX and XFORM write at all, apart from `CHV`. -/
theorem mixOp_frame (p q : Word) (s : State) :
    mixOp p q s =
      { s with fresh := (mixOp p q s).fresh, nw := (mixOp p q s).nw, flt := (mixOp p q s).flt } := by
  unfold mixOp
  rcases setW_cases (transformOf s p q).1 (transformOf s p q).2 { s with fresh := .both false } with
    ⟨_, e⟩ | ⟨_, e⟩ <;> rw [e]

/-- R104: starting a period ends no period. -/
theorem enterStage_stage0_outDone (s : State) : (enterStage 5 .stage0 s).outDone = s.outDone := by
  rw [enterStage_succ]
  split
  · rename_i h0
    rw [enterStage_succ]
    split
    · rename_i h1
      rw [enterStage_succ]
      split
      · rename_i h2
        have h0' : s.nw.c0 = 0#16 := h0
        have h1' : s.nw.c1 = 0#16 := h1
        simp [openStage, closeStage, duration, Stage.next, h0', h1', Config.outPeriod] at h2
      · simp [openStage, Stage.next, closeStage]
    · simp [openStage, Stage.next, closeStage]
  · simp [openStage]

/-- Every legal instruction answers a next state (R10). -/
theorem exec_next {i : Instr} (h : wellFormed i = true) (s : State) :
    ∃ t : State, exec i s = .next t := by
  cases i
  case nvmSet a b =>
    simp only [wellFormed, offsetInRange, decide_eq_true_eq] at h
    exact ⟨_, dif_pos (by omega)⟩
  all_goals exact ⟨_, rfl⟩

/-- RESET writes every register and keeps the store and the model's own fields. -/
theorem exec_reset_frame {s t : State} (h : exec .reset s = .next t) :
    t = { State.reset with nvm := s.nvm, params := s.params, stream := s.stream } := by
  cases h; rfl

theorem exec_tickIn_frame {s t : State} (h : exec .tickIn s = .next t) :
    t = { s with cnt0 := t.cnt0, tov0 := t.tov0 } := by
  cases h; rfl

theorem exec_tickOut_frame {s t : State} (h : exec .tickOut s = .next t) :
    t = { s with tcnt1 := t.tcnt1, tov1 := t.tov1, ocf1 := t.ocf1, flt := t.flt } := by
  simp only [exec, execTickOut] at h
  split at h <;> cases h <;> rfl

theorem exec_ovf0Svc_frame {s t : State} (h : exec .ovf0Svc s = .next t) :
    t = { s with tov0 := t.tov0, ticks := t.ticks } := by
  simp only [exec, execOvf0Svc, takeInterrupt] at h
  split at h <;> cases h <;> rfl

theorem exec_capture_frame {s t : State} (h : exec .capture s = .next t) :
    t = { s with pcf := t.pcf, prev := t.prev, pulseOpen := t.pulseOpen, ref := t.ref,
                 pubv := t.pubv, pubp := t.pubp } := by
  simp only [exec, execCapture, takeInterrupt] at h
  split at h <;> cases h
  · rw [captureBody_frame]; rfl
  · rfl

theorem exec_ovf1Svc_frame {s t : State} (h : exec .ovf1Svc s = .next t) :
    t = { s with tov1 := t.tov1, hi1 := t.hi1, ocf1 := t.ocf1, ocie1 := t.ocie1 } := by
  simp only [exec, execOvf1Svc, takeInterrupt] at h
  split at h <;> cases h
  · by_cases h1 : s.hi1 = 0#8 <;> by_cases h2 : s.hi1 - 1#8 = 0#8 <;>
      simp only [clearPending, h1, h2, if_true, if_false]
  · rfl

theorem exec_cmp1Svc_frame {s t : State} (h : exec .cmp1Svc s = .next t) :
    t = { s with stage := t.stage, w := t.w, out := t.out, outDone := t.outDone, tcnt1 := t.tcnt1,
                 ocr1 := t.ocr1, hi1 := t.hi1, tov1 := t.tov1, ocf1 := t.ocf1, ocie1 := t.ocie1 } := by
  simp only [exec, execCmp1Svc, takeInterrupt] at h
  split at h <;> cases h
  · rw [expire_frame]; rfl
  · rfl

theorem exec_now_frame {s t : State} (h : exec .now s = .next t) :
    t = { s with tsRes := t.tsRes } := by
  cases h; rfl

theorem exec_irqMask_frame {s t : State} (h : exec .irqMask s = .next t) :
    t = { s with ie := t.ie } := by
  simp only [exec, execIrqMask] at h
  split at h <;> cases h <;> rfl

theorem exec_irqUnmask_frame {s t : State} (h : exec .irqUnmask s = .next t) :
    t = { s with ie := t.ie } := by
  simp only [exec, execIrqUnmask] at h
  split at h <;> cases h <;> rfl

theorem exec_mix_frame {s t : State} (h : exec .mix s = .next t) :
    t = { s with fresh := t.fresh, nw := t.nw, flt := t.flt } := by
  simp only [exec, execMix] at h
  split at h <;> cases h
  · rw [mixOp_frame]
  · rfl

theorem exec_outStart_frame {s t : State} (h : exec .outStart s = .next t) :
    t = { s with run := t.run, toie1 := t.toie1, stage := t.stage, w := t.w, out := t.out,
                 tcnt1 := t.tcnt1, ocr1 := t.ocr1, hi1 := t.hi1, tov1 := t.tov1, ocf1 := t.ocf1,
                 ocie1 := t.ocie1 } := by
  simp only [exec, execOutStart] at h
  split at h <;> cases h
  · have hd := enterStage_stage0_outDone { s with run := true, toie1 := true }
    rw [enterStage_frame, stageDepth, hd]
  · rfl

theorem exec_outPoll_frame {s t : State} (h : exec .outPoll s = .next t) :
    t = { s with pollRes := t.pollRes, outDone := t.outDone } := by
  cases h; rfl

theorem exec_pin_frame (lv : BitVec 2) {s t : State} (h : exec (.pin lv) s = .next t) :
    t = { s with pins := t.pins, pcf := t.pcf } := by
  cases h; rfl

theorem exec_boot_frame (j : Bool) {s t : State} (h : exec (.boot j) s = .next t) :
    t = { s with mode := t.mode, engSt := t.engSt, ie := t.ie, pcie := t.pcie, toie0 := t.toie0,
                 cmin := t.cmin, cmax := t.cmax, cmid := t.cmid, thr := t.thr,
                 recValid := t.recValid, flt := t.flt } := by
  simp only [exec, execBoot] at h
  split at h
  · split at h
    · cases h; rfl
    · cases h
      unfold load
      by_cases hv : recordValid s.params.chkSeed s.nvm = true <;> simp [hv, activate, raiseFault]
  · cases h; rfl

theorem exec_outCfg_frame (e : Bool) {s t : State} (h : exec (.outCfg e) s = .next t) :
    t = { s with ch1En := t.ch1En } := by
  cases h; rfl

theorem exec_pubStep_frame (c : Ch) {s t : State} (h : exec (.pubStep c) s = .next t) :
    t = { s with mbVal := t.mbVal, mbSeq := t.mbSeq, mbNe := t.mbNe, pubp := t.pubp } := by
  cases h; rw [pubStepOp_frame]

theorem exec_takeStep_frame (c : Ch) {s t : State} (h : exec (.takeStep c) s = .next t) :
    t = { s with tks1 := t.tks1, tkok := t.tkok, tkp := t.tkp, tkv := t.tkv, tkne := t.tkne,
                 mbNe := t.mbNe, chv := t.chv, fresh := t.fresh } := by
  cases h; rw [takeStepOp_frame]

theorem exec_tryTake_frame (c : Ch) {s t : State} (h : exec (.tryTake c) s = .next t) :
    t = { s with tks1 := t.tks1, tkok := t.tkok, tkp := t.tkp, tkv := t.tkv, tkne := t.tkne,
                 mbNe := t.mbNe, chv := t.chv, fresh := t.fresh } := by
  simp only [exec, execTryTake] at h
  split at h <;> cases h
  · rw [takeUntilIdle_frame]
  · rfl

theorem exec_calStep_frame (c : Ch) {s t : State} (h : exec (.calStep c) s = .next t) :
    t = { s with fresh := t.fresh, cmax := t.cmax, cmin := t.cmin, calCnt := t.calCnt,
                 calState := t.calState, cmid := t.cmid, thr := t.thr, nvm := t.nvm,
                 recValid := t.recValid, ind := t.ind } := by
  simp only [exec, execCalStep] at h
  split at h <;> cases h
  · rw [calSampleOp_frame]
  · rfl

theorem exec_nvmSet_frame (a b : Byte) {s t : State} (h : exec (.nvmSet a b) s = .next t) :
    t = { s with nvm := t.nvm } := by
  simp only [exec, execNvmSet] at h
  split at h <;> cases h; rfl

theorem exec_publish_frame (c : Ch) (v : Word) {s t : State} (h : exec (.publish c v) s = .next t) :
    t = { s with pubv := t.pubv, pubp := t.pubp } := by
  simp only [exec, execPublish] at h
  split at h <;> cases h <;> rfl

theorem exec_calSample_frame (c : Ch) (w : Word) {s t : State} (h : exec (.calSample c w) s = .next t) :
    t = { s with chv := t.chv, fresh := t.fresh, cmax := t.cmax, cmin := t.cmin,
                 calCnt := t.calCnt, calState := t.calState, cmid := t.cmid, thr := t.thr,
                 nvm := t.nvm, recValid := t.recValid, ind := t.ind } := by
  simp only [exec, execCalSample] at h
  split at h <;> cases h
  · rw [calSampleOp_frame]
  · rfl

theorem exec_setWidths_frame (a b : Word) {s t : State} (h : exec (.setWidths a b) s = .next t) :
    t = { s with nw := t.nw, flt := t.flt } := by
  simp only [exec, execSetWidths] at h
  split at h <;> cases h
  · rcases setW_cases a b s with ⟨_, e⟩ | ⟨_, e⟩ <;> rw [e]
  · rfl

theorem exec_xform_frame (p q : Word) {s t : State} (h : exec (.xform p q) s = .next t) :
    t = { s with chv := t.chv, fresh := t.fresh, nw := t.nw, flt := t.flt } := by
  simp only [exec, execXform] at h
  split at h <;> cases h
  · rw [mixOp_frame]
  · rfl

end Sys2Proof.Machine
end

