-- ==== Sys2Proof/Laws/PerInstr.lean ====
section
/-! SUPPORT. The family of statements that is made per instruction: the length of every operation word is
decided by its opcode alone (spec 30_encoding.md R52). -/

open Sys2Proof Sys2Proof.Machine

/-- R52: a legal operation's word has one byte more than `opcode[7:5]` says, which is at most five. -/
def Sys2Proof.Laws.WordLength.Statement (i : Instr) : Prop :=
  wellFormed i = true →
    (encode i).length = operandBytes (opcode i) + 1 ∧ operandBytes (opcode i) ≤ 4

theorem Sys2Proof.Laws.WordLength.reset :
    Sys2Proof.Laws.WordLength.Statement .reset :=
  fun _ => by simp [encode, opcode, operands, operandBytes]

theorem Sys2Proof.Laws.WordLength.tickIn :
    Sys2Proof.Laws.WordLength.Statement .tickIn :=
  fun _ => by simp [encode, opcode, operands, operandBytes]

theorem Sys2Proof.Laws.WordLength.tickOut :
    Sys2Proof.Laws.WordLength.Statement .tickOut :=
  fun _ => by simp [encode, opcode, operands, operandBytes]

theorem Sys2Proof.Laws.WordLength.ovf0Svc :
    Sys2Proof.Laws.WordLength.Statement .ovf0Svc :=
  fun _ => by simp [encode, opcode, operands, operandBytes]

theorem Sys2Proof.Laws.WordLength.capture :
    Sys2Proof.Laws.WordLength.Statement .capture :=
  fun _ => by simp [encode, opcode, operands, operandBytes]

theorem Sys2Proof.Laws.WordLength.ovf1Svc :
    Sys2Proof.Laws.WordLength.Statement .ovf1Svc :=
  fun _ => by simp [encode, opcode, operands, operandBytes]

theorem Sys2Proof.Laws.WordLength.cmp1Svc :
    Sys2Proof.Laws.WordLength.Statement .cmp1Svc :=
  fun _ => by simp [encode, opcode, operands, operandBytes]

theorem Sys2Proof.Laws.WordLength.now :
    Sys2Proof.Laws.WordLength.Statement .now :=
  fun _ => by simp [encode, opcode, operands, operandBytes]

theorem Sys2Proof.Laws.WordLength.irqMask :
    Sys2Proof.Laws.WordLength.Statement .irqMask :=
  fun _ => by simp [encode, opcode, operands, operandBytes]

theorem Sys2Proof.Laws.WordLength.irqUnmask :
    Sys2Proof.Laws.WordLength.Statement .irqUnmask :=
  fun _ => by simp [encode, opcode, operands, operandBytes]

theorem Sys2Proof.Laws.WordLength.mix :
    Sys2Proof.Laws.WordLength.Statement .mix :=
  fun _ => by simp [encode, opcode, operands, operandBytes]

theorem Sys2Proof.Laws.WordLength.outStart :
    Sys2Proof.Laws.WordLength.Statement .outStart :=
  fun _ => by simp [encode, opcode, operands, operandBytes]

theorem Sys2Proof.Laws.WordLength.outPoll :
    Sys2Proof.Laws.WordLength.Statement .outPoll :=
  fun _ => by simp [encode, opcode, operands, operandBytes]

theorem Sys2Proof.Laws.WordLength.pin (lv : BitVec 2) :
    Sys2Proof.Laws.WordLength.Statement (.pin lv) :=
  fun _ => by simp [encode, opcode, operands, operandBytes]

theorem Sys2Proof.Laws.WordLength.boot (j : Bool) :
    Sys2Proof.Laws.WordLength.Statement (.boot j) :=
  fun _ => by simp [encode, opcode, operands, operandBytes]

theorem Sys2Proof.Laws.WordLength.outCfg (e : Bool) :
    Sys2Proof.Laws.WordLength.Statement (.outCfg e) :=
  fun _ => by simp [encode, opcode, operands, operandBytes]

theorem Sys2Proof.Laws.WordLength.pubStep (ch : Ch) :
    Sys2Proof.Laws.WordLength.Statement (.pubStep ch) :=
  fun _ => by simp [encode, opcode, operands, operandBytes]

theorem Sys2Proof.Laws.WordLength.takeStep (ch : Ch) :
    Sys2Proof.Laws.WordLength.Statement (.takeStep ch) :=
  fun _ => by simp [encode, opcode, operands, operandBytes]

theorem Sys2Proof.Laws.WordLength.tryTake (ch : Ch) :
    Sys2Proof.Laws.WordLength.Statement (.tryTake ch) :=
  fun _ => by simp [encode, opcode, operands, operandBytes]

theorem Sys2Proof.Laws.WordLength.calStep (ch : Ch) :
    Sys2Proof.Laws.WordLength.Statement (.calStep ch) :=
  fun _ => by simp [encode, opcode, operands, operandBytes]

theorem Sys2Proof.Laws.WordLength.nvmSet (i b : Byte) :
    Sys2Proof.Laws.WordLength.Statement (.nvmSet i b) :=
  fun _ => by simp [encode, opcode, operands, operandBytes]

theorem Sys2Proof.Laws.WordLength.publish (ch : Ch) (v : Word) :
    Sys2Proof.Laws.WordLength.Statement (.publish ch v) :=
  fun _ => by simp [encode, opcode, operands, operandBytes, immBytes]

theorem Sys2Proof.Laws.WordLength.calSample (ch : Ch) (w : Word) :
    Sys2Proof.Laws.WordLength.Statement (.calSample ch w) :=
  fun _ => by simp [encode, opcode, operands, operandBytes, immBytes]

theorem Sys2Proof.Laws.WordLength.setWidths (w0 w1 : Word) :
    Sys2Proof.Laws.WordLength.Statement (.setWidths w0 w1) :=
  fun _ => by simp [encode, opcode, operands, operandBytes, immBytes]

theorem Sys2Proof.Laws.WordLength.xform (p q : Word) :
    Sys2Proof.Laws.WordLength.Statement (.xform p q) :=
  fun _ => by simp [encode, opcode, operands, operandBytes, immBytes]
end

