-- ==== Sys2Proof/Laws/Trace.lean ====
section
/-! SUPPORT. Laws of traces (Machine/Trace.lean): a trace that is a concatenation, repeated operations,
and finite and infinite traces. Cite them instead of unfolding `execList` on `runOut n`, whose unfolding is as long as `n`. -/

namespace Sys2Proof.Machine

/-- The outcome of `l` continued by `m`. -/
theorem execList_append (l m : List Instr) (s : State) :
    execList (l ++ m) s =
      match execList l s with
      | .next t => execList m t
      | .fault r => .fault r
      | .refused r => .refused r := by
  induction l generalizing s with
  | nil => rfl
  | cons i l ih => simp only [List.cons_append, execList]; cases exec i s <;> simp only [ih]

theorem execList_cons_next {i : Instr} {s t : State} (h : exec i s = .next t) (l : List Instr) :
    execList (i :: l) s = execList l t := by
  simp only [execList, h]

theorem execList_append_next {l : List Instr} {s t : State} (h : execList l s = .next t)
    (m : List Instr) : execList (l ++ m) s = execList m t := by
  rw [execList_append, h]

theorem times_comm (n : Nat) (l : List Instr) : l ++ times n l = times n l ++ l := by
  induction n with
  | zero => simp only [times, List.append_nil, List.nil_append]
  | succ n ih => simp only [times, List.append_assoc]; rw [← ih]

theorem runOut_succ (n : Nat) : runOut (n + 1) = runOut n ++ tickOutS := times_comm n tickOutS

theorem runOut_add (n m : Nat) : runOut (n + m) = runOut n ++ runOut m := by
  induction m with
  | zero => simp only [runOut, times, Nat.add_zero, List.append_nil]
  | succ m ih => rw [← Nat.add_assoc, runOut_succ, ih, runOut_succ, List.append_assoc]

@[simp] theorem upTo_finite (l : List Instr) (n : Nat) : (Trace.finite l).upTo n = l.take n := rfl

@[simp] theorem upTo_infinite_zero (op : Nat → Instr) : (Trace.infinite op).upTo 0 = [] := rfl

theorem upTo_infinite_succ (op : Nat → Instr) (n : Nat) :
    (Trace.infinite op).upTo (n + 1) = (Trace.infinite op).upTo n ++ [op n] := rfl

/-- A concatenation is admissible where its first part is and its second is in the state that is then
reached. -/
theorem admissible_append (strict : Bool) (l m : List Instr) (s : State) :
    admissible strict (l ++ m) s = true ↔
      admissible strict l s = true ∧ ∃ t, execList l s = .next t ∧ admissible strict m t = true := by
  induction l generalizing s with
  | nil => simp [admissible, execList]
  | cons i l ih =>
    simp only [List.cons_append, admissible, execList, Bool.and_eq_true]
    cases exec i s with
    | next t => simp only [ih t]; tauto
    | fault r => simp
    | refused r => simp

/-- A finite trace is admissible exactly where its list of operations is. -/
theorem admissibleTrace_finite (strict : Bool) (l : List Instr) (s : State) :
    AdmissibleTrace strict (.finite l) s ↔ admissible strict l s = true := by
  constructor
  · intro h
    simpa using h l.length
  · intro h n
    rw [← List.take_append_drop n l, admissible_append] at h
    exact h.1

/-- What a trace has come to after one more operation. -/
theorem stateAt_infinite_succ {op : Nat → Instr} {s t : State} {n : Nat}
    (h : stateAt (.infinite op) s n = .next t) :
    stateAt (.infinite op) s (n + 1) = execList [op n] t := by
  rw [stateAt, upTo_infinite_succ]
  exact execList_append_next h _

end Sys2Proof.Machine
end

