-- ==== Sys2Proof/Machine/Asm.lean ====
section
/-! DEFINITION. The assembler syntax of spec 30_encoding.md R59, with the pseudo-instructions of R60: a
line of text, as a list of characters, gives a list of operations, or `none` where it is not a line of
that syntax or an operand is out of the range R54 gives it. What R59 leaves unsaid (blank lines, tabs, the
case of hexadecimal digits) is in notes/assumptions/17.md. -/

namespace Sys2Proof.Machine

/-- The digit of a number in base `base` up to 16. -/
def readDigit (base : Nat) (ch : Char) : Option Nat :=
  let n := ch.toNat
  let d :=
    if 48 ≤ n ∧ n ≤ 57 then n - 48
    else if 97 ≤ n ∧ n ≤ 102 then n - 87
    else if 65 ≤ n ∧ n ≤ 70 then n - 55
    else 16
  if d < base then some d else none

/-- The digits that follow `acc`, most significant first. -/
def readDigits (base : Nat) : Nat → List Char → Option Nat
  | acc, [] => some acc
  | acc, ch :: rest =>
    match readDigit base ch with
    | some d => readDigits base (acc * base + d) rest
    | none => none

/-- "Numbers are decimal, or `0x` hexadecimal, or `0b` binary" (R59); at least one digit. -/
def readNumber : List Char → Option Nat
  | [] => none
  | ['0', 'x'] => none
  | ['0', 'b'] => none
  | '0' :: 'x' :: ds => readDigits 16 0 ds
  | '0' :: 'b' :: ds => readDigits 2 0 ds
  | ds => readDigits 10 0 ds

/-- A blank within a line. -/
def isBlank (ch : Char) : Bool := ch == ' ' || ch == '\t'

/-- Blanks removed at both ends. -/
def trim (cs : List Char) : List Char :=
  ((cs.dropWhile isBlank).reverse.dropWhile isBlank).reverse

/-- The pieces of a text between the separators `sep`. -/
def splitAtChar (sep : Char) : List Char → List (List Char)
  | [] => [[]]
  | ch :: rest =>
    if ch = sep then [] :: splitAtChar sep rest
    else
      match splitAtChar sep rest with
      | [] => [[ch]]
      | piece :: more => (ch :: piece) :: more

/-- Every piece is a number, or `none`. -/
def readNumbers : List (List Char) → Option (List Nat)
  | [] => some []
  | piece :: rest =>
    match readNumber (trim piece), readNumbers rest with
    | some n, some ns => some (n :: ns)
    | _, _ => none

/-- A channel operand: 0 or 1 (R54). -/
def asCh (n : Nat) : Option Ch :=
  if n = 0 then some .ch0 else if n = 1 then some .ch1 else none

/-- A boolean operand: 0 or 1 (R54). -/
def asBool (n : Nat) : Option Bool :=
  if n = 0 then some false else if n = 1 then some true else none

/-- An operand of `w` bits (R54). -/
def asBits (w n : Nat) : Option (BitVec w) :=
  if n < 2 ^ w then some (BitVec.ofNat w n) else none

/-- The offset of NVM_SET: 0 to 12 (R54, R56 c). -/
def asOffset (n : Nat) : Option Byte := if n ≤ 12 then some (BitVec.ofNat 8 n) else none

/-- The mnemonics of R55 and R60 that take no operand. -/
def plainMnemonics : List (String × List Instr) :=
  [("RESET", [.reset]), ("TICK_IN", [.tickIn]), ("TICK_OUT", [.tickOut]),
   ("OVF0_SVC", [.ovf0Svc]), ("CAPTURE", [.capture]), ("OVF1_SVC", [.ovf1Svc]),
   ("CMP1_SVC", [.cmp1Svc]), ("NOW", [.now]), ("IRQ_MASK", [.irqMask]),
   ("IRQ_UNMASK", [.irqUnmask]), ("MIX", [.mix]), ("OUT_START", [.outStart]),
   ("OUT_POLL", [.outPoll]), ("TICK_IN.S", tickInS), ("TICK_OUT.S", tickOutS),
   ("DRAIN", drain), ("CAPTURE.A", captureA), ("LOOP_CAL", loopCal), ("LOOP_RUN", loopRun)]

/-- The mnemonics of R55 and R60 that take one operand. -/
def unaryMnemonics : List (String × (Nat → Option (List Instr))) :=
  [("PIN", fun n => (asBits 2 n).map fun lv => [.pin lv]),
   ("BOOT", fun n => (asBool n).map fun j => [.boot j]),
   ("OUT_CFG", fun n => (asBool n).map fun e => [.outCfg e]),
   ("PUB_STEP", fun n => (asCh n).map fun c => [.pubStep c]),
   ("TAKE_STEP", fun n => (asCh n).map fun c => [.takeStep c]),
   ("TRY_TAKE", fun n => (asCh n).map fun c => [.tryTake c]),
   ("CAL_STEP", fun n => (asCh n).map fun c => [.calStep c]),
   ("TICKS_IN", fun n => some (ticksIn n)),
   ("TICKS_OUT", fun n => some (ticksOut n)),
   ("RUN_OUT", fun n => some (runOut n))]

/-- The mnemonics of R55 and R60 that take two operands. -/
def binaryMnemonics : List (String × (Nat → Nat → Option (List Instr))) :=
  [("NVM_SET", fun m n =>
      (asOffset m).bind fun i => (asBits 8 n).map fun b => [.nvmSet i b]),
   ("PUBLISH", fun m n => (asCh m).bind fun c => (asBits 16 n).map fun v => [.publish c v]),
   ("CAL_SAMPLE", fun m n => (asCh m).bind fun c => (asBits 16 n).map fun w => [.calSample c w]),
   ("SET_WIDTHS", fun m n =>
      (asBits 16 m).bind fun a => (asBits 16 n).map fun b => [.setWidths a b]),
   ("XFORM", fun m n => (asBits 16 m).bind fun p => (asBits 16 n).map fun q => [.xform p q]),
   ("PUBLISH.A", fun m n => (asCh m).bind fun c => (asBits 16 n).map fun v => publishA c v)]

/-- The entry of a table under a name. -/
def lookupName {α : Type} (name : List Char) : List (String × α) → Option α
  | [] => none
  | (key, x) :: rest => if key.toList = name then some x else lookupName name rest

/-- One operation or pseudo-instruction with its operands. WAIT_OUT is a loop and no list of operations
(R60): it is `waitOut`. -/
def assembleOp (name : List Char) : List Nat → Option (List Instr)
  | [] => lookupName name plainMnemonics
  | [m] => (lookupName name unaryMnemonics).bind fun f => f m
  | [m, n] => (lookupName name binaryMnemonics).bind fun f => f m n
  | _ => none

/-- A mnemonic and its operands, separated by commas. -/
def assembleBody (body : List Char) : Option (List Instr) :=
  let name := body.takeWhile (fun ch => !isBlank ch)
  let operands := trim (body.drop name.length)
  if operands.isEmpty then assembleOp name []
  else (readNumbers (splitAtChar ',' operands)).bind (assembleOp name)

/-- One line (R59): a comment starts at `;`, and `×n` at the end repeats the operation `n` times. -/
def assembleLine (line : List Char) : Option (List Instr) :=
  let text := trim (line.takeWhile (fun ch => ch ≠ ';'))
  if text.isEmpty then some []
  else
    match splitAtChar '×' text with
    | [body] => assembleBody (trim body)
    | [body, count] =>
      match assembleBody (trim body), readNumber (trim count) with
      | some l, some n => some (times n l)
      | _, _ => none
    | _ => none

/-- The lines of a text in order, one operation per line (R59). -/
def assembleLines : List (List Char) → Option (List Instr)
  | [] => some []
  | line :: rest =>
    match assembleLine line, assembleLines rest with
    | some l, some more => some (l ++ more)
    | _, _ => none

/-- A text in the assembler syntax. -/
def assemble (text : List Char) : Option (List Instr) := assembleLines (splitAtChar '\n' text)

end Sys2Proof.Machine
end

