-- ==== Sys2Proof/Tests/Slice0.lean ====
section
/-! SUPPORT. Tests: the WellFormed smoke test, every constructor decoded from a word written out from
spec/30_encoding.md, single steps with the results that spec/95_test_vectors.md or the rule's own example
gives, and for every statement with hypotheses a witness that its hypotheses can be met. -/

open Sys2Proof Sys2Proof.Machine

namespace Sys2Proof.Tests

/-! ### WellFormed (R56 c) -/

theorem test_wellFormed_refuses_offset_13 : wellFormed (.nvmSet 13#8 0x00#8) = false := by decide

theorem test_wellFormed_refuses_offset_255 : wellFormed (.nvmSet 0xFF#8 0x00#8) = false := by decide

theorem test_wellFormed_accepts_offset_12 : wellFormed (.nvmSet 12#8 0x9B#8) = true := by decide

/-! ### Decoding: one word per constructor, written from the tables R53 to R55 -/

theorem test_decode_reset : decodeOne [0x01#8] = .op .reset [] := by decide
theorem test_decode_tickIn : decodeOne [0x02#8, 0x00#8] = .op .tickIn [0x00#8] := by decide
theorem test_decode_tickOut : decodeOne [0x03#8] = .op .tickOut [] := by decide
theorem test_decode_ovf0Svc : decodeOne [0x04#8] = .op .ovf0Svc [] := by decide
theorem test_decode_capture : decodeOne [0x05#8] = .op .capture [] := by decide
theorem test_decode_ovf1Svc : decodeOne [0x06#8] = .op .ovf1Svc [] := by decide
theorem test_decode_cmp1Svc : decodeOne [0x07#8] = .op .cmp1Svc [] := by decide
theorem test_decode_now : decodeOne [0x08#8] = .op .now [] := by decide
theorem test_decode_irqMask : decodeOne [0x09#8] = .op .irqMask [] := by decide
theorem test_decode_irqUnmask : decodeOne [0x0A#8] = .op .irqUnmask [] := by decide
theorem test_decode_mix : decodeOne [0x0B#8] = .op .mix [] := by decide
theorem test_decode_outStart : decodeOne [0x0C#8] = .op .outStart [] := by decide
theorem test_decode_outPoll : decodeOne [0x0D#8] = .op .outPoll [] := by decide
theorem test_decode_pin : decodeOne [0x20#8, 0x02#8] = .op (.pin 0b10#2) [] := by decide
theorem test_decode_boot : decodeOne [0x21#8, 0x01#8] = .op (.boot true) [] := by decide
theorem test_decode_outCfg : decodeOne [0x22#8, 0x00#8] = .op (.outCfg false) [] := by decide
theorem test_decode_pubStep : decodeOne [0x23#8, 0x01#8] = .op (.pubStep .ch1) [] := by decide
theorem test_decode_takeStep : decodeOne [0x24#8, 0x00#8] = .op (.takeStep .ch0) [] := by decide
theorem test_decode_tryTake : decodeOne [0x25#8, 0x01#8] = .op (.tryTake .ch1) [] := by decide
theorem test_decode_calStep : decodeOne [0x26#8, 0x01#8] = .op (.calStep .ch1) [] := by decide
theorem test_decode_nvmSet :
    decodeOne [0x40#8, 0x0C#8, 0x9B#8] = .op (.nvmSet 12#8 0x9B#8) [] := by decide
theorem test_decode_publish :
    decodeOne [0x60#8, 0x01#8, 0x44#8, 0x33#8] = .op (.publish .ch1 0x3344#16) [] := by decide
theorem test_decode_calSample :
    decodeOne [0x61#8, 0x00#8, 0xDC#8, 0x05#8] = .op (.calSample .ch0 1500#16) [] := by decide
theorem test_decode_setWidths :
    decodeOne [0x80#8, 0x40#8, 0x06#8, 0x78#8, 0x05#8] = .op (.setWidths 1600#16 1400#16) [] := by
  decide
theorem test_decode_xform :
    decodeOne [0x81#8, 0xDC#8, 0x05#8, 0xA4#8, 0x06#8] = .op (.xform 1500#16 1700#16) [] := by decide

/-- V71: opcodes that are not assigned, and opcodes of undefined length. -/
theorem test_illegal_first_bytes :
    decodeOne [0x00#8] = .illegal (.unassigned 0x00#8) ∧
    decodeOne [0x0E#8] = .illegal (.unassigned 0x0E#8) ∧
    decodeOne [0x1F#8] = .illegal (.unassigned 0x1F#8) ∧
    decodeOne [0x27#8, 0x00#8] = .illegal (.unassigned 0x27#8) ∧
    decodeOne [0x41#8, 0x00#8, 0x00#8] = .illegal (.unassigned 0x41#8) ∧
    decodeOne [0x62#8, 0x00#8, 0x00#8, 0x00#8] = .illegal (.unassigned 0x62#8) ∧
    decodeOne [0x82#8, 0x00#8, 0x00#8, 0x00#8, 0x00#8] = .illegal (.unassigned 0x82#8) ∧
    decodeOne [0xA0#8] = .illegal (.undefinedLength 0xA0#8) ∧
    decodeOne [0xFF#8] = .illegal (.undefinedLength 0xFF#8) := by decide

/-- V72: reserved operand bits, and the offset of NVM_SET. -/
theorem test_illegal_operands :
    decodeOne [0x21#8, 0x02#8] = .illegal (.reservedBit 0x21#8 0x02#8) ∧
    decodeOne [0x20#8, 0x04#8] = .illegal (.reservedBit 0x20#8 0x04#8) ∧
    decodeOne [0x25#8, 0x80#8] = .illegal (.reservedBit 0x25#8 0x80#8) ∧
    decodeOne [0x60#8, 0x02#8, 0x00#8, 0x00#8] = .illegal (.reservedBit 0x60#8 0x02#8) ∧
    decodeOne [0x40#8, 0x0D#8, 0x00#8] = .illegal (.offsetRange 0x0D#8) := by decide

/-- V73: truncated words. -/
theorem test_illegal_truncated :
    decodeOne [0x61#8, 0x00#8, 0xDC#8] = .illegal (.truncated 0x61#8) ∧
    decodeOne [0x80#8, 0x40#8, 0x06#8, 0x78#8] = .illegal (.truncated 0x80#8) := by decide

/-- V73: the position of the first invalid word. -/
theorem test_stream_positions :
    decodeStream [0x02#8, 0x21#8] = .invalid [.tickIn] 1 (.truncated 0x21#8) ∧
    decodeStream [0x02#8, 0x02#8, 0x00#8, 0x02#8] =
      .invalid [.tickIn, .tickIn] 2 (.unassigned 0x00#8) := by decide

/-- R51: the number of a word has its first byte in the low bits. -/
theorem test_table_word_xform :
    decodeTableWord 40 0x06A405DC81 = some (.xform 1500#16 1700#16) ∧
    decodeTableWord 8 0x02 = some .tickIn ∧ decodeTableWord 8 0x00 = none := by decide

/-- R59 and R60: V2's line with a comment, a repetition, a binary number, a pseudo-instruction. -/
theorem test_assemble :
    assemble "BOOT 0\nXFORM 1500, 1700 ; D0 ex. 2\nTICK_IN ×2\nPIN 0b11\nLOOP_RUN".toList =
      some [.boot false, .xform 1500#16 1700#16, .tickIn, .tickIn, .pin 0b11#2,
            .tryTake .ch0, .tryTake .ch1, .mix] := by decide

/-- An offset above 12, a channel above 1 and a lower-case mnemonic are no lines of the syntax. -/
theorem test_assemble_refuses :
    assemble "NVM_SET 13, 0".toList = none ∧ assemble "CAL_STEP 2".toList = none ∧
    assemble "mix".toList = none := by decide

/-! ### One step of each operation -/

/-- The state after one operation. -/
def after (i : Instr) (s : State) : State :=
  match exec i s with
  | .next t => t
  | .fault _ => s
  | .refused _ => s

/-- Record A of spec/95_test_vectors.md: `E8 03 D0 07 DC 05 E8 03 D0 07 DC 05 9B`. -/
def recordA : Memory :=
  [(0, 0xE8#8), (1, 0x03#8), (2, 0xD0#8), (3, 0x07#8), (4, 0xDC#8), (5, 0x05#8),
   (6, 0xE8#8), (7, 0x03#8), (8, 0xD0#8), (9, 0x07#8), (10, 0xDC#8), (11, 0x05#8), (12, 0x9B#8)]

/-- Powered on with record A in the store. -/
def fromA : State := { State.reset with nvm := recordA }

/-- Active in Running mode, with the record of V65 loaded. -/
def running : State :=
  { fromA with
    engSt := .active, ie := true, pcie := true, toie0 := true
    cmin := .both 1000#16, cmax := .both 2000#16, cmid := .both 1500#16, thr := 1062#16
    recValid := true }

/-- Active in Calibrating mode. -/
def calibrating : State :=
  { State.reset with
    engSt := .active, ie := true, pcie := true, toie0 := true, mode := .calibrating }

/-- Halted by a checksum mismatch (V3). -/
def halted : State := { State.reset with engSt := .halted, flt := 0b001#3 }

/-- R109: RESET clears what it finds and keeps the store. -/
theorem test_reset : after .reset { running with pubp := .both .p3, mbSeq := .both 1#8 } = fromA := by
  decide

/-- V8. -/
theorem test_tickIn_wraps :
    (after .tickIn { calibrating with cnt0 := 255#8 }).cnt0 = 0#8 ∧
    (after .tickIn { calibrating with cnt0 := 255#8 }).tov0 = true := by decide

/-- V59: the stale match of the first lap, and the overflow. -/
theorem test_tickOut_wraps :
    (after .tickOut { running with tcnt1 := 255#8, ocr1 := 16#8 }).tov1 = true ∧
    (after .tickOut { running with tcnt1 := 255#8, ocr1 := 16#8 }).ocf1 = false ∧
    (after .tickOut { running with tcnt1 := 15#8, ocr1 := 16#8 }).ocf1 = true := by decide

/-- R118: an overflow and a match in one tick of a started generator. -/
theorem test_tickOut_hazard :
    (after .tickOut { running with tcnt1 := 255#8, run := true }).flt = 0b010#3 ∧
    (after .tickOut { running with tcnt1 := 255#8 }).flt = 0b000#3 := by decide

/-- V7. -/
theorem test_ovf0Svc :
    (after .ovf0Svc { calibrating with tov0 := true, cnt0 := 50#8 }).ticks = 1#8 ∧
    now (after .ovf0Svc { calibrating with tov0 := true, cnt0 := 50#8 }) = 306#16 := by decide

/-- V11: not eligible before BOOT. -/
theorem test_ovf0Svc_before_boot :
    after .ovf0Svc { State.reset with tov0 := true } = { State.reset with tov0 := true } := by decide

/-- V4: the rising edge at tick 100. -/
theorem test_capture_rising :
    (after .capture { calibrating with cnt0 := 100#8, pcf := true, pins := 0b01#2 }).ref.c0 = 100#16 ∧
    (after .capture { calibrating with cnt0 := 100#8, pcf := true, pins := 0b01#2 }).pubp.c0 = .idle := by
  decide

/-- V4: the falling edge with the overflow still pending. -/
theorem test_capture_falling :
    (after .capture
      { calibrating with
        cnt0 := 50#8, tov0 := true, pcf := true, prev := ⟨true, false⟩
        pulseOpen := ⟨true, false⟩, ref := ⟨100#16, 0#16⟩ }).pubv.c0 = 206#16 := by decide

/-- V59: the overflow service that arms the compare discards the match. -/
theorem test_ovf1Svc_arms :
    (after .ovf1Svc
      { running with tov1 := true, toie1 := true, hi1 := 1#8, ocf1 := true }).ocf1 = false ∧
    (after .ovf1Svc
      { running with tov1 := true, toie1 := true, hi1 := 1#8, ocf1 := true }).ocie1 = true := by decide

/-- V60: the first pulse ends and the second begins. -/
theorem test_cmp1Svc :
    (after .cmp1Svc
      { running with run := true, ocie1 := true, ocf1 := true, tcnt1 := 105#8, ocr1 := 100#8,
                     w := ⟨100#16, 50#16⟩, out := ⟨true, false⟩ }).out = ⟨false, true⟩ ∧
    (after .cmp1Svc
      { running with run := true, ocie1 := true, ocf1 := true, tcnt1 := 105#8, ocr1 := 100#8,
                     w := ⟨100#16, 50#16⟩, out := ⟨true, false⟩ }).ocr1 = 50#8 := by decide

/-- V51: two stages of zero length and the next period in one operation. -/
theorem test_cmp1Svc_zero_stages :
    (after .cmp1Svc
      { running with run := true, ocie1 := true, ocf1 := true, w := ⟨20000#16, 0#16⟩
                     nw := ⟨20000#16, 0#16⟩, out := ⟨true, false⟩ }).outDone = true ∧
    (after .cmp1Svc
      { running with run := true, ocie1 := true, ocf1 := true, w := ⟨20000#16, 0#16⟩
                     nw := ⟨20000#16, 0#16⟩, out := ⟨true, false⟩ }).out = ⟨true, false⟩ := by decide

/-- V6. -/
theorem test_now :
    (after .now { State.reset with tov0 := true, cnt0 := 50#8 }).tsRes = 306#16 ∧
    (after .now { State.reset with tov0 := true, cnt0 := 50#8 }).tov0 = true := by decide

/-- R111, and V66: no effect before BOOT. -/
theorem test_irqMask : (after .irqMask running).ie = false := by decide
theorem test_irqUnmask :
    (after .irqUnmask { running with ie := false }).ie = true ∧
    after .irqUnmask State.reset = State.reset := by decide

/-- The MIX example that closes section 2.5 of spec/95_test_vectors.md. -/
theorem test_mix :
    (after .mix { running with chv := ⟨1400#16, 1700#16⟩, fresh := .both true }).nw =
      ⟨1500#16, 1300#16⟩ ∧
    (after .mix { running with chv := ⟨1500#16, 0#16⟩, fresh := ⟨true, false⟩ }).fresh =
      ⟨true, false⟩ := by decide

/-- V62: nothing requested, so the generator starts in the idle stage. -/
theorem test_outStart_idle :
    (after .outStart running).stage = .stage2 ∧ (after .outStart running).ocr1 = 32#8 ∧
    (after .outStart running).hi1 = 78#8 := by decide

/-- V62: not in Calibrating mode. -/
theorem test_outStart_calibrating : after .outStart calibrating = calibrating := by decide

/-- V62. -/
theorem test_outPoll :
    (after .outPoll { running with outDone := true }).pollRes = true ∧
    (after .outPoll { running with outDone := true }).outDone = false := by decide

/-- R76's example and corner case (a). -/
theorem test_pin :
    (after (.pin 0b01#2) State.reset).pcf = true ∧ (after (.pin 0b00#2) State.reset).pcf = false := by
  decide

/-- V65. -/
theorem test_boot_loads : after (.boot false) fromA = running := by decide

/-- V3. -/
theorem test_boot_halts :
    (after (.boot false) { fromA with nvm := nvmWrite recordA 12 0x9A#8 }).engSt = .halted ∧
    (after (.boot false) { fromA with nvm := nvmWrite recordA 12 0x9A#8 }).flt = 0b001#3 := by decide

/-- V66: OUT_CFG acts before BOOT. -/
theorem test_outCfg : (after (.outCfg false) State.reset).ch1En = false := by decide

/-- R70's example: P2 of 0x3344 over 0x1122. -/
theorem test_pubStep_low_byte :
    (after (.pubStep .ch0)
      { State.reset with mbVal := ⟨0x1122#16, 0#16⟩, pubv := ⟨0x3344#16, 0#16⟩
                         pubp := ⟨.p2, .idle⟩ }).mbVal.c0 = 0x1144#16 := by decide

/-- V19: the torn read at T3, and the rejection at T5. -/
theorem test_takeStep_high_byte :
    (after (.takeStep .ch0)
      { State.reset with tkv := ⟨0x0022#16, 0#16⟩, mbVal := ⟨0x3344#16, 0#16⟩
                         tkp := ⟨.t3, .idle⟩ }).tkv.c0 = 0x3322#16 := by decide
theorem test_takeStep_rejects :
    (after (.takeStep .ch0)
      { State.reset with tks1 := ⟨2#8, 0#8⟩, mbSeq := ⟨4#8, 0#8⟩, tkne := ⟨true, false⟩
                         tkok := ⟨true, false⟩, tkp := ⟨.t5, .idle⟩ }).tkok.c0 = false := by decide

/-- V15. -/
theorem test_tryTake :
    (after (.tryTake .ch0)
      { State.reset with mbVal := ⟨42#16, 0#16⟩, mbSeq := ⟨2#8, 0#8⟩
                         mbNe := ⟨true, false⟩ }).chv.c0 = 42#16 ∧
    (after (.tryTake .ch0)
      { State.reset with mbVal := ⟨42#16, 0#16⟩, mbSeq := ⟨2#8, 0#8⟩
                         mbNe := ⟨true, false⟩ }).mbNe.c0 = false := by decide

/-- V20: an empty mailbox. -/
theorem test_tryTake_empty : after (.tryTake .ch1) State.reset = State.reset := by decide

/-- R82's example. -/
theorem test_calStep :
    (after (.calStep .ch0)
      { calibrating with cmax := ⟨1500#16, 0#16⟩, calCnt := 2#16, chv := ⟨1800#16, 0#16⟩
                         fresh := ⟨true, false⟩ }).cmax.c0 = 1800#16 := by decide

/-- V69. -/
theorem test_nvmSet :
    nvmRead (after (.nvmSet 12#8 0x9B#8) State.reset).nvm 12 = 0x9B#8 ∧
    (after (.nvmSet 12#8 0x00#8) { State.reset with nvm := [(12, 0x9B#8)] }).nvm = [] := by decide

/-- V21: a second PUBLISH while one is in flight is dropped. -/
theorem test_publish :
    (after (.publish .ch0 9#16) (after (.publish .ch0 7#16) State.reset)).pubv.c0 = 7#16 := by decide

/-- V22, sample 10: entering the LOW state sets the minimum to the maximum. -/
theorem test_calSample_wait :
    (after (.calSample .ch0 1400#16)
      { calibrating with calState := .waitA, calCnt := 1#16, cmax := ⟨2000#16, 0#16⟩ }).cmin.c0 =
      2000#16 := by decide

/-- V22, sample 32: the record `… 4C 04 6C 07 DC 05 9C`. -/
theorem test_calSample_finish :
    (after (.calSample .ch1 1120#16)
      { calibrating with calState := .c1Low, calCnt := 3#16, cmin := ⟨1000#16, 1100#16⟩
                         cmax := ⟨2000#16, 1900#16⟩ }).nvm =
      [(0, 0xE8#8), (1, 0x03#8), (2, 0xD0#8), (3, 0x07#8), (4, 0xDC#8), (5, 0x05#8),
       (6, 0x4C#8), (7, 0x04#8), (8, 0x6C#8), (9, 0x07#8), (10, 0xDC#8), (11, 0x05#8),
       (12, 0x9C#8)] := by decide

/-- V58: a sum equal to the period is accepted, a greater one is the fault WidthRange. -/
theorem test_setWidths :
    (after (.setWidths 10000#16 10000#16) running).nw = ⟨10000#16, 10000#16⟩ ∧
    (after (.setWidths 10001#16 10000#16) running).flt = 0b100#3 := by decide

/-- V33 and V43: rounding toward zero, and no 16-bit wrap. -/
theorem test_xform_rounds : (after (.xform 1500#16 1301#16) running).nw = ⟨1401#16, 1599#16⟩ := by
  decide
theorem test_xform_clamps : (after (.xform 1100#16 65535#16) running).nw = ⟨2000#16, 1000#16⟩ := by
  decide

/-- V57: Program(271) and Program(272). -/
theorem test_program :
    (program 271#16 running).tcnt1 = 16#8 ∧ (program 271#16 running).ocr1 = 31#8 ∧
    (program 272#16 running).tcnt1 = 0#8 ∧ (program 272#16 running).hi1 = 1#8 := by decide

/-! ### Witnesses

`witness_<Name>` shows that the hypotheses of `Obligations.<Name>` can be met, all together, and the
hypotheses of each of its clauses, at a boundary value where the clause has a range. Statements without
hypotheses need none. -/

/-- The state that a step answers. -/
def stepped (s : State) : State :=
  match step s with
  | .next t => t
  | .fault _ => s
  | .refused _ => s

/-- The state that a trace answers. -/
def afterAll : List Instr → State → State
  | [], s => s
  | i :: rest, s => afterAll rest (after i s)

theorem witness_DecodeOfEncodeIsTheInstruction : wellFormed (.nvmSet 12#8 0x9B#8) = true := by decide

theorem witness_DecodedBytesAreTheEncoding :
    decodeOne [0x40#8, 0x0C#8, 0x9B#8, 0x00#8] = .op (.nvmSet 12#8 0x9B#8) [0x00#8] := by decide

/-- A stream with the longest and the shortest words, used by two statements. -/
theorem witness_StreamOfWordsDecodesToItsOperations :
    ∀ i ∈ [Instr.xform 1500#16 1700#16, .tickIn, .nvmSet 12#8 0#8], wellFormed i = true := by decide

theorem witness_SteppingAStreamPerformsItsOperations :
    ∀ i ∈ [Instr.boot true, .tickIn, .reset], wellFormed i = true := by decide

theorem witness_StepRunsTheDecodedInstruction :
    wellFormed (.boot true) = true ∧
    decodeOne { State.reset with stream := [0x21#8, 0x01#8, 0x02#8] }.stream =
      .op (.boot true) [0x02#8] := by decide

theorem witness_StepRefusesWhatSpellsNoOperation :
    decodeOne { State.reset with stream := [0x0E#8] }.stream = .illegal (.unassigned 0x0E#8) ∧
    decodeOne { State.reset with stream := [0xA0#8] }.stream = .illegal (.undefinedLength 0xA0#8) ∧
    decodeOne { State.reset with stream := [0x21#8] }.stream = .illegal (.truncated 0x21#8) ∧
    decodeOne { State.reset with stream := [0x20#8, 0x04#8] }.stream =
      .illegal (.reservedBit 0x20#8 0x04#8) ∧
    decodeOne { State.reset with stream := [0x40#8, 0x0D#8, 0x00#8] }.stream =
      .illegal (.offsetRange 0x0D#8) ∧
    State.reset.stream = [] := by decide

/-- An overflow pending in interrupt-ready state, with the tick counter about to wrap. -/
def overflow0 : State := { calibrating with tov0 := true, ticks := 255#8 }

theorem witness_Ovf0SvcCountsOneOverflowTick :
    (overflow0.ie = true ∧ overflow0.toie0 = true ∧ overflow0.tov0 = true ∧
      intActive overflow0 = false) ∧
    { overflow0 with ie := false }.ie = false ∧ { overflow0 with toie0 := false }.toie0 = false ∧
    { overflow0 with tov0 := false }.tov0 = false ∧
    intActive { overflow0 with pubp := ⟨.idle, .p5⟩ } = true := by decide

theorem witness_TimestampAdvancesByTheTicksCounted :
    noReset [.tickIn, .ovf0Svc, .tickIn] ∧
    noTickLost [.tickIn, .ovf0Svc, .tickIn] { calibrating with cnt0 := 255#8, ticks := 255#8 } =
      true := by
  unfold noReset; decide

theorem witness_PublishLatchesTheValue :
    State.reset.pubp.get .ch0 = .idle ∧
    { State.reset with pubp := ⟨.idle, .p5⟩ }.pubp.get .ch1 ≠ .idle := by decide

theorem witness_PubStepPerformsTheNextStep :
    State.reset.pubp.get .ch0 = .idle ∧
    { State.reset with pubp := .both .p1, mbSeq := .both 255#8 }.pubp.get .ch0 = .p1 ∧
    { State.reset with pubp := .both .p2 }.pubp.get .ch1 = .p2 ∧
    { State.reset with pubp := .both .p3 }.pubp.get .ch0 = .p3 ∧
    { State.reset with pubp := .both .p4 }.pubp.get .ch1 = .p4 ∧
    { State.reset with pubp := .both .p5 }.pubp.get .ch0 = .p5 := by decide

/-- A take in phase `k` with the flag `ne` read and the sequence unchanged. -/
def taking (k : TakePhase) (ne : Bool) : State :=
  { State.reset with tkp := .both k, tkne := .both ne, mbSeq := .both 254#8, tks1 := .both 254#8 }

theorem witness_TakeStepPerformsTheNextStep :
    ((taking .idle false).tkp.get .ch0 = .idle ∧
      ((taking .idle false).mbSeq.get .ch0).toNat % 2 = 0) ∧
    ({ taking .idle false with mbSeq := .both 255#8 }.tkp.get .ch1 = .idle ∧
      ({ taking .idle false with mbSeq := .both 255#8 }.mbSeq.get .ch1).toNat % 2 = 1) ∧
    (taking .t2 false).tkp.get .ch0 = .t2 ∧ (taking .t3 false).tkp.get .ch1 = .t3 ∧
    (taking .t4 false).tkp.get .ch0 = .t4 ∧
    ((taking .t5 true).tkp.get .ch0 = .t5 ∧ (taking .t5 true).tkne.get .ch0 = true ∧
      (taking .t5 true).mbSeq.get .ch0 = (taking .t5 true).tks1.get .ch0) ∧
    ((taking .t5 false).tkp.get .ch1 = .t5 ∧ (taking .t5 false).tkne.get .ch1 = false) ∧
    ({ taking .t5 true with mbSeq := .both 0#8 }.tkp.get .ch0 = .t5 ∧
      { taking .t5 true with mbSeq := .both 0#8 }.mbSeq.get .ch0 ≠
        { taking .t5 true with mbSeq := .both 0#8 }.tks1.get .ch0) ∧
    (taking .t6 true).tkp.get .ch1 = .t6 := by decide

theorem witness_TryTakeIsAWholeTake :
    (taking .t2 false).tkp.get .ch0 ≠ .idle ∧
    ({ taking .idle false with mbSeq := .both 255#8 }.tkp.get .ch0 = .idle ∧
      ({ taking .idle false with mbSeq := .both 255#8 }.mbSeq.get .ch0).toNat % 2 = 1) ∧
    ((taking .idle false).tkp.get .ch0 = .idle ∧
      ((taking .idle false).mbSeq.get .ch0).toNat % 2 = 0 ∧
      (taking .idle false).mbNe.get .ch0 = false ∧
      { taking .idle false with mbNe := .both true }.mbNe.get .ch0 = true) := by decide

/-- One publish with a take begun in the middle of it, and 127 publishes. -/
theorem witness_TakesNeverReturnATornValue :
    SeqParity State.reset ∧ State.reset.pubp.get .ch0 = .idle ∧ State.reset.tkp.get .ch0 = .idle ∧
    (∀ i ∈ [Instr.publish .ch0 0x3344#16, .pubStep .ch0, .takeStep .ch0, .pubStep .ch0],
      isMailboxStep .ch0 i = true) ∧
    [Instr.publish .ch0 0x3344#16, .pubStep .ch0, .takeStep .ch0, .pubStep .ch0].countP
      (isPublishOn .ch0) ≤ 127 ∧
    (∀ i ∈ List.replicate 127 (Instr.publish .ch0 0x3344#16), isMailboxStep .ch0 i = true) ∧
    (List.replicate 127 (Instr.publish .ch0 0x3344#16)).countP (isPublishOn .ch0) ≤ 127 :=
  ⟨fun c => by cases c <;> decide, by decide, by decide, by decide, by decide,
    fun i hi => by rw [List.eq_of_mem_replicate hi]; rfl, by rw [List.countP_replicate]; decide⟩

theorem witness_PublishBetweenAcceptAndClearIsLost :
    (taking .t6 true).tkp.get .ch0 = .t6 ∧ (taking .t6 true).pubp.get .ch0 = .idle ∧
    ((taking .t6 true).mbSeq.get .ch0).toNat % 2 = 0 := by decide

/-- P5 on an odd sequence counter that wraps. -/
def publishing : State :=
  { State.reset with pubp := ⟨.p5, .idle⟩, mbSeq := ⟨255#8, 0#8⟩, stream := [0x23#8, 0x00#8] }

theorem witness_StepKeepsSequenceParity :
    SeqParity publishing ∧ step publishing = .next (stepped publishing) :=
  ⟨fun c => by cases c <;> decide, rfl⟩

/-- A pin change pending with channel 0 risen, channel 1 fallen with its pulse open. -/
def edges : State :=
  { calibrating with
    pcf := true, pins := 0b01#2, prev := ⟨false, true⟩, pulseOpen := ⟨false, true⟩
    ref := ⟨0#16, 65500#16⟩, cnt0 := 170#8 }

theorem witness_CaptureProcessesTheEdges :
    (edges.ie = true ∧ edges.pcie = true ∧ edges.pcf = true ∧ intActive edges = false) ∧
    (edges.prev.get .ch0 = false ∧ level edges.pins .ch0 = true) ∧
    (edges.prev.get .ch1 = true ∧ level edges.pins .ch1 = false ∧
      edges.pulseOpen.get .ch1 = true) ∧
    { edges with pins := 0b10#2 }.prev.get .ch1 = level { edges with pins := 0b10#2 }.pins .ch1 ∧
    { edges with pulseOpen := .both false }.pulseOpen.get .ch1 = false ∧
    { edges with pcf := false }.pcf = false := by decide

/-- The rise is captured, three ticks pass with a wrap left pending and the other channel's rise captured
between them, the pin falls. -/
theorem witness_CapturedWidthIsTheTicksBetween :
    let s : State := { calibrating with pcf := true, pins := 0b01#2, cnt0 := 254#8 }
    let l : List Instr := [.pin 0b11#2, .tickIn, .capture, .tickIn, .tickIn, .pin 0b10#2]
    eligible s .pinChange = true ∧ s.prev.get .ch0 = false ∧ level s.pins .ch0 = true ∧
    exec .capture s = .next (after .capture s) ∧ noReset l ∧
    pulseStaysHigh .ch0 l (after .capture s) = true ∧
    noTickLost l (after .capture s) = true ∧
    execList l (after .capture s) = .next (afterAll l (after .capture s)) ∧
    eligible (afterAll l (after .capture s)) .pinChange = true ∧
    level (afterAll l (after .capture s)).pins .ch0 = false :=
  ⟨rfl, rfl, rfl, rfl, by unfold noReset; decide, rfl, rfl, rfl, rfl, rfl⟩

theorem witness_StepKeepsOpenEqualToPrev :
    OpenIsPrev { edges with stream := [0x05#8] } ∧
    step { edges with stream := [0x05#8] } = .next (stepped { edges with stream := [0x05#8] }) :=
  ⟨rfl, rfl⟩

theorem witness_CalStepConsumesTheHeldWidth :
    ({ calibrating with fresh := .both true }.engSt = .active ∧
      { calibrating with fresh := .both true }.mode = .calibrating ∧
      { calibrating with fresh := .both true }.fresh.get .ch1 = true) ∧
    halted.engSt ≠ .active ∧ running.mode = .running ∧ calibrating.fresh.get .ch0 = false := by
  decide

theorem witness_CalSampleInjectsAndConsumes :
    (calibrating.engSt = .active ∧ calibrating.mode = .calibrating) ∧
    Ch.ch1 ≠ calActive calibrating.calState ∧
    { calibrating with calState := .done }.calState = .done ∧
    State.reset.engSt ≠ .active ∧ running.mode = .running := by decide

/-- Calibrating in the state `st`, with the counter at `n`. -/
def calAt (st : CalState) (n : Word) : State :=
  { calibrating with calState := st, calCnt := n, cmax := .both 2000#16, cmin := .both 1000#16 }

theorem witness_HighStateTracksTheMaximum :
    ((calAt .c0High 3#16).engSt = .active ∧ (calAt .c0High 3#16).mode = .calibrating ∧
      (calAt .c0High 3#16).calState = .c0High ∧ (calAt .c1High 3#16).calState = .c1High) ∧
    2001 > ((calAt .c0High 3#16).cmax.get .ch0).toNat ∧
    (2000 ≤ ((calAt .c0High 2#16).cmax.get .ch0).toNat ∧
      (calAt .c0High 2#16).calCnt.toNat + 1 ≤ (calAt .c0High 2#16).params.calThresh.val) ∧
    (2000 ≤ ((calAt .c1High 3#16).cmax.get .ch1).toNat ∧
      (calAt .c1High 3#16).calCnt.toNat + 1 > (calAt .c1High 3#16).params.calThresh.val) := by decide

theorem witness_LowStateTracksTheMinimum :
    ((calAt .c0Low 3#16).engSt = .active ∧ (calAt .c0Low 3#16).mode = .calibrating ∧
      (calAt .c0Low 3#16).calState = .c0Low ∧ (calAt .c1Low 3#16).calState = .c1Low) ∧
    999 < ((calAt .c1Low 3#16).cmin.get .ch1).toNat ∧
    (1000 ≥ ((calAt .c1Low 2#16).cmin.get .ch1).toNat ∧
      (calAt .c1Low 2#16).calCnt.toNat + 1 ≤ (calAt .c1Low 2#16).params.calThresh.val) ∧
    (1000 ≥ ((calAt .c0Low 3#16).cmin.get .ch0).toNat ∧
      (calAt .c0Low 3#16).calCnt.toNat + 1 > (calAt .c0Low 3#16).params.calThresh.val) := by decide

theorem witness_WaitStateDiscardsSamples :
    ((calAt .waitA 1#16).engSt = .active ∧ (calAt .waitA 1#16).mode = .calibrating) ∧
    (calAt .waitA 0#16).calCnt.toNat + 1 < (calAt .waitA 0#16).params.calWait ∧
    ((calAt .waitA 1#16).calState = .waitA ∧ (calAt .waitB 1#16).calState = .waitB ∧
      (calAt .waitC 1#16).calState = .waitC ∧
      (calAt .waitC 1#16).calCnt.toNat + 1 ≥ (calAt .waitC 1#16).params.calWait) := by decide

theorem witness_FinishDerivesAndStoresTheRecord :
    (calAt .c1Low 3#16).engSt = .active ∧ (calAt .c1Low 3#16).mode = .calibrating ∧
    (calAt .c1Low 3#16).calState = .c1Low ∧
    (calAt .c1Low 3#16).cmin.c1.toNat ≤ (1000#16 : Word).toNat ∧
    (calAt .c1Low 3#16).calCnt.toNat + 1 > (calAt .c1Low 3#16).params.calThresh.val ∧
    (calAt .c1Low 3#16).cmin.c0 ≤ (calAt .c1Low 3#16).cmax.c0 ∧
    (calAt .c1Low 3#16).cmin.c1 ≤ (calAt .c1Low 3#16).cmax.c1 ∧ NvmCanonical (calAt .c1Low 3#16) := by
  unfold NvmCanonical; decide

theorem witness_StoredRecordIsReloadedAfterReset :
    isCalibrating (calAt .c1Low 3#16) = true ∧ (calAt .c1Low 3#16).calState = .c1Low ∧
    (calAt .c1Low 3#16).cmin.c1 ≤ 1000#16 ∧
    (calAt .c1Low 3#16).calCnt.toNat + 1 > (calAt .c1Low 3#16).params.calThresh.val ∧
    NvmCanonical (calAt .c1Low 3#16) ∧
    exec (.calSample .ch1 1000#16) (calAt .c1Low 3#16) =
      .next (after (.calSample .ch1 1000#16) (calAt .c1Low 3#16)) :=
  ⟨rfl, rfl, by decide, by decide, rfl, rfl⟩

theorem witness_OnlySamplesMoveCalibration :
    touchesCalibration .tickIn = false ∧ exec .tickIn calibrating = .next (after .tickIn calibrating) :=
  ⟨rfl, rfl⟩

theorem witness_CalibrationMovesForwardOnly :
    Instr.calSample .ch1 999#16 ≠ .reset ∧ (∀ j : Bool, Instr.calSample .ch1 999#16 ≠ .boot j) ∧
    exec (.calSample .ch1 999#16) (calAt .c1Low 3#16) =
      .next (after (.calSample .ch1 999#16) (calAt .c1Low 3#16)) ∧
    lowSeen0 (calAt .c1Low 3#16).calState = true ∧ lowSeen1 (calAt .c1Low 3#16).calState = true :=
  ⟨by decide, fun j => by cases j <;> decide, rfl, rfl, rfl⟩

/-- The sample that completes calibration, as the next word of the stream. -/
def finishing : State :=
  { calAt .c1Low 3#16 with stream := [0x61#8, 0x01#8, 0xE8#8, 0x03#8] }

theorem witness_StepKeepsCalibrationBounds :
    CalibrationInv finishing ∧ step finishing = .next (stepped finishing) ∧
    (stepped finishing).calState = .done :=
  ⟨⟨by decide, by decide, by decide, by decide, by decide, fun h => absurd h (by decide)⟩, rfl, rfl⟩

theorem witness_TransformIsBoundedAndAntisymmetric :
    running.cmin.c0 ≤ running.cmax.c0 ∧
    (1061#16 < running.thr ∧ running.cmin.c0 ≤ 1061#16 ∧ 1061#16 ≤ running.cmax.c0) ∧
    (1301#16 : Word).toNat + (1699#16 : Word).toNat = 2 * running.cmid.c1.toNat := by decide

/-- Both widths fresh in Running mode. -/
def fresh (p q : Word) : State := { running with chv := ⟨p, q⟩, fresh := .both true }

/-- The first range is that of V58: a channel that may ask for more than a period. -/
theorem witness_MixTransformsTheFreshWidths :
    ((fresh 1400#16 1700#16).engSt = .active ∧ (fresh 1400#16 1700#16).mode = .running ∧
      (fresh 1400#16 1700#16).fresh.c0 = true ∧ (fresh 1400#16 1700#16).fresh.c1 = true) ∧
    (transformOf (fresh 1400#16 1700#16) 1400#16 1700#16).1.toNat +
      (transformOf (fresh 1400#16 1700#16) 1400#16 1700#16).2.toNat ≤ Config.outPeriod ∧
    (transformOf { fresh 10001#16 1500#16 with cmax := .both 15000#16 } 10001#16 1500#16).1.toNat +
      (transformOf { fresh 10001#16 1500#16 with cmax := .both 15000#16 } 10001#16 1500#16).2.toNat >
      Config.outPeriod ∧
    halted.engSt ≠ .active ∧ calibrating.mode = .calibrating ∧ running.fresh.c0 = false ∧
    running.fresh.c1 = false := by decide

theorem witness_XformTransformsImmediateWidths :
    (running.engSt = .active ∧ running.mode = .running) ∧
    (transformOf running 1500#16 1700#16).1.toNat + (transformOf running 1500#16 1700#16).2.toNat ≤
      Config.outPeriod ∧
    (transformOf { running with cmax := .both 15000#16 } 10001#16 1500#16).1.toNat +
      (transformOf { running with cmax := .both 15000#16 } 10001#16 1500#16).2.toNat >
      Config.outPeriod ∧
    State.reset.engSt ≠ .active ∧ calibrating.mode = .calibrating := by decide

/-- The generator started with widths 1600 and 1400 (P3). -/
def started : State := after .outStart { running with nw := ⟨1600#16, 1400#16⟩ }

theorem witness_TickOutCountsAndFlags :
    ((after .tickOut { started with tcnt1 := 255#8, ocr1 := 0#8 }).tcnt1.toNat = 0 ∧
      (after .tickOut { started with tcnt1 := 255#8, ocr1 := 0#8 }).tcnt1 = 0#8 ∧
      { started with tcnt1 := 255#8, ocr1 := 0#8 }.run = true) ∧
    (after .tickOut started).tcnt1.toNat ≠ 0 ∧ running.run = false := by decide

/-- An output overflow pending with the high byte at `h`. -/
def overflow1 (h : Byte) : State := { started with tov1 := true, hi1 := h }

theorem witness_Ovf1SvcCountsDownAndArms :
    ((overflow1 1#8).ie = true ∧ (overflow1 1#8).toie1 = true ∧ (overflow1 1#8).tov1 = true ∧
      intActive (overflow1 1#8) = false) ∧
    (overflow1 1#8).hi1.toNat = 1 ∧ (overflow1 0#8).hi1.toNat ≠ 1 ∧
    (overflow1 255#8).hi1.toNat ≠ 1 ∧ started.tov1 = false := by decide

theorem witness_ProgramTimesTheStageBeyondTheMargin :
    (1#16 : Word) ≠ 0#16 ∧ (lowByte 16#16).toNat ≥ started.params.outMargin ∧
    (lowByte 271#16).toNat < started.params.outMargin ∧
    (lowByte 65535#16).toNat ≥ started.params.outMargin := by decide

/-- Both branches of EnterStage, and widths that fill the period. -/
theorem witness_EnterStageAndExpireRecurse :
    (duration .stage0 (openStage .stage0 running)).toNat = 0 ∧
    (duration .stage0 (openStage .stage0 started)).toNat ≠ 0 ∧
    WidthsFit { started with w := ⟨20000#16, 0#16⟩ } := by
  unfold WidthsFit; decide

/-- A compare match pending in stage `st`. -/
def matched (st : Stage) : State := { started with ocie1 := true, ocf1 := true, stage := st }

theorem witness_Cmp1SvcEndsTheStage :
    ((matched .stage0).ie = true ∧ (matched .stage0).ocie1 = true ∧ (matched .stage0).ocf1 = true ∧
      intActive (matched .stage0) = false) ∧
    ((matched .stage0).stage = .stage0 ∧ (matched .stage0).w.c1 ≠ 0#16) ∧
    ((matched .stage1).stage = .stage1 ∧
      (matched .stage1).w.c0.toNat + (matched .stage1).w.c1.toNat < Config.outPeriod) ∧
    ((matched .stage2).stage = .stage2 ∧ (matched .stage2).nw.c0 ≠ 0#16) ∧
    started.ocie1 = false ∧ { matched .stage0 with ie := false }.ie = false := by decide

theorem witness_SetWidthsRequestsBothWidths :
    (running.engSt = .active ∧ running.mode = .running) ∧
    (10000#16 : Word).toNat + (10000#16 : Word).toNat ≤ Config.outPeriod ∧
    (10001#16 : Word).toNat + (10000#16 : Word).toNat > Config.outPeriod ∧
    halted.engSt ≠ .active ∧ calibrating.mode = .calibrating := by decide

theorem witness_OutStartStartsTheGenerator :
    (running.engSt = .active ∧ running.mode = .running ∧ running.run = false ∧ WidthsFit running) ∧
    WidthsFit { running with nw := ⟨1#16, 19999#16⟩ } ∧ (1#16 : Word) ≠ 0#16 ∧
    WidthsFit { running with nw := ⟨0#16, 20000#16⟩ } ∧ running.nw.c0 = 0#16 ∧
    running.nw.c1 = 0#16 ∧ started.run = true ∧ halted.engSt ≠ .active := by
  unfold WidthsFit; decide

theorem generatorInv_started : GeneratorInv started :=
  ⟨fun h => absurd h (by decide), fun _ => ⟨by decide, by decide, by decide, by decide, by decide⟩,
    by decide⟩

theorem witness_StepKeepsGlitchFreedom :
    GeneratorInv { matched .stage0 with ocie1 := false, stream := [0x03#8] } ∧
    step { matched .stage0 with ocie1 := false, stream := [0x03#8] } =
      .next (stepped { matched .stage0 with ocie1 := false, stream := [0x03#8] }) :=
  ⟨⟨fun h => absurd h (by decide), fun _ => ⟨by decide, by decide, by decide, by decide, by decide⟩,
    by decide⟩, rfl⟩

theorem witness_StageLastsExactlyItsDuration :
    (1#16 : Word) ≠ 0#16 ∧ PromptReady started ∧ 0 < (1#16 : Word).toNat :=
  ⟨by decide, ⟨rfl, rfl, rfl, rfl⟩, by decide⟩

theorem witness_PeriodIsExactUnderPromptService :
    isRunning { running with nw := ⟨1600#16, 1400#16⟩ } = true ∧ running.run = false ∧
    running.ie = true ∧ intActive running = false ∧
    WidthsFit { running with nw := ⟨1600#16, 1400#16⟩ } ∧
    GeneratorInv { running with nw := ⟨1600#16, 1400#16⟩ } ∧ 19999 < Config.outPeriod :=
  ⟨rfl, rfl, rfl, rfl, by unfold WidthsFit; decide,
    ⟨fun _ => ⟨rfl, rfl, rfl⟩, fun h => absurd h (by decide), rfl⟩, by decide⟩

/-- A request for the whole period, as the next word of the stream. -/
def requesting : State :=
  { running with stream := [0x80#8, 0x10#8, 0x27#8, 0x10#8, 0x27#8] }

theorem witness_StepKeepsWidthsWithinThePeriod :
    WidthsFit requesting ∧ step requesting = .next (stepped requesting) ∧
    (stepped requesting).nw = ⟨10000#16, 10000#16⟩ :=
  ⟨by unfold WidthsFit; decide, rfl, rfl⟩

/-- In stage `st` of a period whose later stages have no length, with other widths requested. -/
def fullStage (st : Stage) : State := { matched st with w := ⟨20000#16, 0#16⟩, nw := ⟨1#16, 2#16⟩ }

/-- Each stage from which a CMP1_SVC reaches the next period, OUT_START, and a request. -/
theorem witness_WidthsLatchAtThePeriodBoundary :
    (Instr.cmp1Svc ≠ .reset ∧
      exec .cmp1Svc { matched .stage2 with nw := ⟨1#16, 2#16⟩ } =
        .next (after .cmp1Svc { matched .stage2 with nw := ⟨1#16, 2#16⟩ }) ∧
      (after .cmp1Svc { matched .stage2 with nw := ⟨1#16, 2#16⟩ }).w ≠ (matched .stage2).w) ∧
    (exec .cmp1Svc (fullStage .stage0) = .next (after .cmp1Svc (fullStage .stage0)) ∧
      (after .cmp1Svc (fullStage .stage0)).w ≠ (fullStage .stage0).w) ∧
    (exec .cmp1Svc (fullStage .stage1) = .next (after .cmp1Svc (fullStage .stage1)) ∧
      (after .cmp1Svc (fullStage .stage1)).w ≠ (fullStage .stage1).w) ∧
    (Instr.outStart ≠ .reset ∧
      exec .outStart { running with nw := ⟨1#16, 2#16⟩ } =
        .next (after .outStart { running with nw := ⟨1#16, 2#16⟩ }) ∧
      (after .outStart { running with nw := ⟨1#16, 2#16⟩ }).w ≠ running.w) ∧
    (Instr.setWidths 1#16 2#16 ≠ .reset ∧
      exec (.setWidths 1#16 2#16) started = .next (after (.setWidths 1#16 2#16) started) ∧
      (after (.setWidths 1#16 2#16) started).nw ≠ started.nw) :=
  ⟨⟨by decide, rfl, by decide⟩, ⟨rfl, by decide⟩, ⟨rfl, by decide⟩, ⟨by decide, rfl, by decide⟩,
    ⟨by decide, rfl, by decide⟩⟩

theorem witness_BootDecidesTheMode :
    running.engSt ≠ .preboot ∧ halted.engSt ≠ .preboot ∧ fromA.engSt = .preboot ∧
    ChecksumAgrees fromA ∧ ¬ChecksumAgrees { fromA with nvm := nvmWrite recordA 12 0x9A#8 } := by
  unfold ChecksumAgrees; decide

theorem witness_MaskAndUnmaskWriteIE :
    running.engSt = .active ∧ halted.engSt ≠ .active ∧ State.reset.engSt ≠ .active := by decide

theorem witness_NvmSetWritesOneByte :
    (12#8 : Byte).toNat ≤ 12 ∧ NvmCanonical fromA ∧ (0 : Fin 13) ≠ 12 ∧ (13#8 : Byte).toNat > 12 := by
  unfold NvmCanonical; decide

theorem witness_StepKeepsTheStoreCanonical :
    NvmCanonical { fromA with stream := [0x40#8, 0x0C#8, 0x00#8] } ∧
    step { fromA with stream := [0x40#8, 0x0C#8, 0x00#8] } =
      .next (stepped { fromA with stream := [0x40#8, 0x0C#8, 0x00#8] }) :=
  ⟨rfl, rfl⟩

theorem inert_halted : Inert halted := ⟨rfl, rfl, rfl, rfl, rfl, rfl⟩

theorem engineInv_halted : EngineInv halted :=
  ⟨fun h => absurd h (by decide), fun _ => ⟨inert_halted, rfl, rfl⟩, by decide, by decide, rfl,
    fun _ => ⟨rfl, rfl, rfl⟩⟩

theorem witness_StepKeepsEngineStates :
    EngineInv { halted with stream := [0x0A#8] } ∧
    step { halted with stream := [0x0A#8] } = .next (stepped { halted with stream := [0x0A#8] }) :=
  ⟨⟨fun h => absurd h (by decide), fun _ => ⟨⟨rfl, rfl, rfl, rfl, rfl, rfl⟩, rfl, rfl⟩, by decide,
    by decide, rfl, fun _ => ⟨rfl, rfl, rfl⟩⟩, rfl⟩

theorem witness_HaltedStaysInertUntilReset :
    noReset [.irqUnmask, .outStart, .setWidths 1#16 1#16, .boot true, .tickOut] ∧
    EngineInv halted ∧ halted.engSt = .halted :=
  ⟨by unfold noReset; decide, engineInv_halted, rfl⟩

theorem witness_FaultBitsAreStickyAndUnread :
    Instr.setWidths 10001#16 10000#16 ≠ .reset ∧
    exec (.setWidths 10001#16 10000#16) { running with flt := 0b010#3 } =
      .next (after (.setWidths 10001#16 10000#16) { running with flt := 0b010#3 }) :=
  ⟨by decide, rfl⟩

/-- One operation of each agent, and an OUT_START that starts the generator. -/
theorem witness_EachAgentWritesItsOwnRegisters :
    (agent .tickOut = .hw ∧ exec .tickOut started = .next (after .tickOut started)) ∧
    (agent (.pin 0b11#2) = .env ∧
      exec (.pin 0b11#2) calibrating = .next (after (.pin 0b11#2) calibrating)) ∧
    (agent .capture = .irq ∧ exec .capture edges = .next (after .capture edges)) ∧
    (agent .mix = .main ∧
      exec .mix (fresh 1400#16 1700#16) = .next (after .mix (fresh 1400#16 1700#16))) ∧
    (agent .outStart = .main ∧ exec .outStart running = .next (after .outStart running) ∧
      after .outStart running ≠ running ∧ GeneratorInv running) :=
  ⟨⟨rfl, rfl⟩, ⟨rfl, rfl⟩, ⟨rfl, rfl⟩, ⟨rfl, rfl⟩, ⟨rfl, rfl, by decide,
    ⟨fun _ => ⟨rfl, rfl, rfl⟩, fun h => absurd h (by decide), rfl⟩⟩⟩

/-- R132: the model's own reset state is one that a trace begins in. -/
theorem powerOn_reset : PowerOn State.reset := ⟨rfl, rfl⟩

/-- The input counter ticks for ever, and nothing else happens. -/
theorem ticking_admissible (n : Nat) :
    ∀ s : State, ∃ t : State, execList (firstOps (fun _ => .tickIn) n) s = .next t ∧
      admissible Config.strictCtx (firstOps (fun _ => .tickIn) n) s = true := by
  induction n with
  | zero => exact fun s => ⟨s, rfl, rfl⟩
  | succ n ih =>
    intro s
    obtain ⟨t, ht, hadm⟩ := ih s
    exact ⟨after .tickIn t, execList_append_next ht _,
      (admissible_append _ _ _ _).2 ⟨hadm, t, ht, rfl⟩⟩

/-- A legal operation, a finite behaviour and an infinite one. -/
theorem witness_EveryLegalOperationIsTotal :
    wellFormed (.nvmSet 12#8 0xFF#8) = true ∧
    IsBehaviour State.reset (.finite [.boot true, .outPoll]) ∧
    IsBehaviour State.reset (.infinite fun _ => .tickIn) :=
  ⟨by decide, ⟨powerOn_reset, (admissibleTrace_finite _ _ _).2 (by decide)⟩,
    ⟨powerOn_reset, fun n => (ticking_admissible n State.reset).choose_spec.2⟩⟩

/-- R127: a MAIN operation while a publish is in flight is not admissible under `STRICT_CTX`, so the
trace is no behaviour; after its last step it is. -/
theorem test_admissible :
    admissible Config.strictCtx [.publish .ch0 5#16, .now] State.reset = false ∧
    admissible false [.publish .ch0 5#16, .now] State.reset = true ∧
    admissible Config.strictCtx (publishA .ch0 5#16 ++ [.now]) State.reset = true := by decide

/-- R60: a stopped generator is waited for in vain. -/
theorem test_waitOut :
    waitOut [[], []] State.reset = none ∧ (waitOut [] { started with outDone := true }).isSome = true := by
  decide

end Sys2Proof.Tests
end

section
/-! PROOFS. Totality of the operations and of the step (spec 00_scope.md R5, R10): no operation changes the
model's own fields, a list of legal operations reaches a state, and so every admissible trace goes on. -/

namespace Sys2Proof.Machine

/-! ### One step (R58) -/

theorem step_of_decodeOne_op {s : State} {i : Instr} {rest : List Byte}
    (h : decodeOne s.stream = .op i rest) : step s = exec i { s with stream := rest } := by
  simp only [step, h]

/-- Settles O5. That `i` is legal follows from its being decoded, and is not needed. -/
theorem stepRunsTheDecodedInstruction : Obligations.StepRunsTheDecodedInstruction := by
  intro s i rest _ h
  exact step_of_decodeOne_op h

/-! ### The model's own fields -/

/-- The fields of State that are no registers of the spec: the parameters (notes/assumptions/3.md) and the
trace still to come (notes/assumptions/1.md). -/
def ownFields (s : State) : Config.Params × List Byte := (s.params, s.stream)

/-- Neither field stands among those that an operation's frame lets it write. -/
theorem exec_ownFields {i : Instr} {s t : State} (h : exec i s = .next t) :
    ownFields t = ownFields s := by
  cases i with
  | reset => exact (congrArg ownFields (exec_reset_frame h) :)
  | tickIn => exact (congrArg ownFields (exec_tickIn_frame h) :)
  | tickOut => exact (congrArg ownFields (exec_tickOut_frame h) :)
  | ovf0Svc => exact (congrArg ownFields (exec_ovf0Svc_frame h) :)
  | capture => exact (congrArg ownFields (exec_capture_frame h) :)
  | ovf1Svc => exact (congrArg ownFields (exec_ovf1Svc_frame h) :)
  | cmp1Svc => exact (congrArg ownFields (exec_cmp1Svc_frame h) :)
  | now => exact (congrArg ownFields (exec_now_frame h) :)
  | irqMask => exact (congrArg ownFields (exec_irqMask_frame h) :)
  | irqUnmask => exact (congrArg ownFields (exec_irqUnmask_frame h) :)
  | mix => exact (congrArg ownFields (exec_mix_frame h) :)
  | outStart => exact (congrArg ownFields (exec_outStart_frame h) :)
  | outPoll => exact (congrArg ownFields (exec_outPoll_frame h) :)
  | pin lv => exact (congrArg ownFields (exec_pin_frame lv h) :)
  | boot j => exact (congrArg ownFields (exec_boot_frame j h) :)
  | outCfg e => exact (congrArg ownFields (exec_outCfg_frame e h) :)
  | pubStep c => exact (congrArg ownFields (exec_pubStep_frame c h) :)
  | takeStep c => exact (congrArg ownFields (exec_takeStep_frame c h) :)
  | tryTake c => exact (congrArg ownFields (exec_tryTake_frame c h) :)
  | calStep c => exact (congrArg ownFields (exec_calStep_frame c h) :)
  | nvmSet a b => exact (congrArg ownFields (exec_nvmSet_frame a b h) :)
  | publish c v => exact (congrArg ownFields (exec_publish_frame c v h) :)
  | calSample c w => exact (congrArg ownFields (exec_calSample_frame c w h) :)
  | setWidths a b => exact (congrArg ownFields (exec_setWidths_frame a b h) :)
  | xform p q => exact (congrArg ownFields (exec_xform_frame p q h) :)

theorem exec_params {i : Instr} {s t : State} (h : exec i s = .next t) : t.params = s.params :=
  congrArg Prod.fst (exec_ownFields h)

theorem exec_stream {i : Instr} {s t : State} (h : exec i s = .next t) : t.stream = s.stream :=
  congrArg Prod.snd (exec_ownFields h)

/-! ### Lists of legal operations and admissible traces -/

/-- R127 for the first operation and for the rest, in the state that the first one reaches. -/
theorem admissible_cons (strict : Bool) (i : Instr) (l : List Instr) (s : State) :
    admissible strict (i :: l) s = true ↔
      (wellFormed i = true ∧ admissibleAt strict i s = true) ∧
        ∃ t : State, exec i s = .next t ∧ admissible strict l t = true := by
  simp only [admissible, Bool.and_eq_true]
  cases exec i s <;> simp

theorem wellFormed_of_admissible {strict : Bool} {l : List Instr} {s : State}
    (h : admissible strict l s = true) : ∀ i ∈ l, wellFormed i = true := by
  induction l generalizing s with
  | nil => simp
  | cons j l ih =>
    obtain ⟨⟨hj, _⟩, t, _, hl⟩ := (admissible_cons strict j l s).1 h
    exact List.forall_mem_cons.2 ⟨hj, ih hl⟩

/-- R10 for a finite list, admissible or not: the operations need only be legal. -/
theorem execList_next_of_wellFormed {l : List Instr} (h : ∀ i ∈ l, wellFormed i = true) (s : State) :
    ∃ t : State, execList l s = .next t ∧ ownFields t = ownFields s := by
  induction l generalizing s with
  | nil => exact ⟨s, rfl, rfl⟩
  | cons i l ih =>
    obtain ⟨hi, hl⟩ := List.forall_mem_cons.1 h
    obtain ⟨u, hu⟩ := exec_next hi s
    obtain ⟨t, ht, hown⟩ := ih hl u
    exact ⟨t, (execList_cons_next hu l).trans ht, hown.trans (exec_ownFields hu)⟩

theorem stateAt_next_of_admissible {strict : Bool} {tr : Trace} {start : State}
    (h : AdmissibleTrace strict tr start) (n : Nat) :
    ∃ t : State, stateAt tr start n = .next t ∧ ownFields t = ownFields start :=
  execList_next_of_wellFormed (wellFormed_of_admissible (h n)) start

/-- Settles O60: each operation by the frames, the traces by induction over their first `n` operations. -/
theorem everyLegalOperationIsTotal : Obligations.EveryLegalOperationIsTotal := by
  constructor
  · intro i s hi
    obtain ⟨t, ht⟩ := exec_next hi s
    exact ⟨t, ht, exec_params ht, exec_stream ht⟩
  · intro start tr ⟨_, hadm⟩ n
    obtain ⟨t, ht, hown⟩ := stateAt_next_of_admissible hadm n
    exact ⟨t, ht, congrArg Prod.fst hown⟩

end Sys2Proof.Machine
end

section
/-! PROOFS. The state (spec 10_state.md): the reset values and the invariants that hold there (R35), and
the ownership table (R34): which registers the operations of each agent write, and in which direction the
flags that two agents share move. -/

namespace Sys2Proof.Machine

/-! ### Reset (R35, R109) -/

/-- Settles O50: RESET is one assignment of the whole state, which reads no register. -/
theorem resetWritesEveryRegister : Obligations.ResetWritesEveryRegister :=
  ⟨⟨rfl, fun _ => rfl⟩, rfl, rfl, fun _ => ⟨_, rfl, fun _ => rfl, rfl⟩⟩

theorem seqParity_reset : SeqParity State.reset := by
  intro c; cases c <;> rfl

theorem widthsFit_reset : WidthsFit State.reset := by
  unfold WidthsFit; decide

theorem generatorInv_reset : GeneratorInv State.reset where
  idle _ := ⟨rfl, rfl, rfl⟩
  running h := absurd h (by decide)
  no_hazard := rfl

theorem inert_reset : Inert State.reset := ⟨rfl, rfl, rfl, rfl, rfl, rfl⟩

theorem engineInv_reset : EngineInv State.reset where
  preboot_inert _ := inert_reset
  halted_inert h := absurd h (by decide)
  run_mode h := absurd h (by decide)
  calibration_mode h := absurd rfl h
  indicator_iff_done := rfl
  stopped_low _ := ⟨rfl, rfl, rfl⟩

theorem calibrationInv_reset : CalibrationInv State.reset where
  fresh_before_boot _ := rfl
  min_le_max0 h := absurd h (by decide)
  min_le_max1 h := absurd h (by decide)
  stability_bound _ := Nat.zero_le _
  wait_bound h := absurd h (by decide)
  done_ordered h := absurd h (by decide)

/-- Settles O57, an invariant at a time. -/
theorem invariantsHoldAtReset : Obligations.InvariantsHoldAtReset :=
  ⟨seqParity_reset, rfl, widthsFit_reset, generatorInv_reset, engineInv_reset, calibrationInv_reset, rfl⟩

/-! ### Pending flags: the hardware sets them, the handlers clear them (R34, R121, R124) -/

theorem exec_tickOut_flags {s t : State} (h : exec .tickOut s = .next t) :
    t.tov1 = (s.tov1 || counterWrapped (s.tcnt1 + 1#8)) ∧
    t.ocf1 = (s.ocf1 || compareMatched (s.tcnt1 + 1#8) s.ocr1) ∧
    (t.flt = s.flt ∨ t.flt = s.flt ||| 0b010#3) := by
  simp only [exec, execTickOut] at h
  split at h <;> cases h
  · exact ⟨rfl, rfl, .inr rfl⟩
  · exact ⟨rfl, rfl, .inl rfl⟩

/-- No tick and no change outside the block clears a pending flag. -/
theorem pending_exec_of_hw_or_env {i : Instr} {s t : State} (hi : i ≠ .reset) (h : exec i s = .next t)
    (ha : agent i = .hw ∨ agent i = .env) (src : Source) (hp : pending s src = true) :
    pending t src = true := by
  cases i with
  | reset => exact absurd rfl hi
  | tickIn => cases h; cases src <;> simp_all [pending]
  | tickOut =>
    obtain ⟨htov, hocf, _⟩ := exec_tickOut_flags h
    rw [exec_tickOut_frame h]
    cases src <;> simp_all [pending]
  | pin lv => cases h; cases src <;> simp_all [pending]
  | nvmSet a b => rw [exec_nvmSet_frame a b h]; cases src <;> exact hp
  | _ => simp [agent] at ha

@[simp] theorem pending_openStage (st : Stage) (s : State) (src : Source) :
    pending (openStage st s) src = pending s src := by
  cases st <;> cases src <;> rfl

@[simp] theorem pending_closeStage (st : Stage) (s : State) (src : Source) :
    pending (closeStage st s) src = pending s src := by
  cases st <;> cases src <;> rfl

/-- R97: Program clears both flags of the output timer. -/
theorem pending_of_pending_program {d : Word} {s : State} {src : Source}
    (h : pending (program d s) src = true) : pending s src = true := by
  cases src
  case inputOverflow | pinChange => exact h
  case outputOverflow | outputCompare => exact absurd h Bool.false_ne_true

/-- R99: the end of a stage sets no pending flag. -/
theorem pending_of_pending_expire {st : Stage} {s : State} {src : Source}
    (h : pending (expire st s) src = true) : pending s src = true := by
  revert h
  refine enterStage_induct (P := fun u => pending u src = true → pending s src = true)
    ?_ ?_ ?_ ?_ stageDepth st.next (closeStage st s) ?_
  · intro st u hu
    rwa [pending_openStage]
  · intro st u hu
    rwa [pending_closeStage]
  · intro u hu hp
    apply hu
    cases src <;> exact hp
  · exact fun d u hu hp => hu (pending_of_pending_program hp)
  · rw [pending_closeStage]
    exact id

theorem pending_of_pending_clearPending {s : State} {src src' : Source}
    (h : pending (clearPending s src) src' = true) : pending s src' = true := by
  cases src' <;> simp_all [pending]

/-- R124: a handler clears its own flag, so it sets no flag if its body sets none. -/
theorem pending_of_pending_takeInterrupt {s : State} {src src' : Source} {body : State → State}
    (hbody : ∀ u : State, pending (body u) src' = true → pending u src' = true)
    (h : pending (takeInterrupt src body s) src' = true) : pending s src' = true := by
  revert h
  exact takeInterrupt_induct (P := fun u => pending u src' = true → pending s src' = true) src body id
    fun _ h => pending_of_pending_clearPending (hbody _ h)

/-- No operation of interrupt context sets a pending flag. -/
theorem pending_of_pending_exec_irq {i : Instr} {s t : State} (h : exec i s = .next t)
    (ha : agent i = .irq) (src : Source) (hp : pending t src = true) : pending s src = true := by
  cases i with
  | ovf0Svc =>
    cases h
    refine pending_of_pending_takeInterrupt ?_ hp
    intro u hu; cases src <;> exact hu
  | capture =>
    cases h
    refine pending_of_pending_takeInterrupt ?_ hp
    intro u hu
    rw [captureBody_frame] at hu
    cases src <;> exact hu
  | ovf1Svc =>
    cases h
    refine pending_of_pending_takeInterrupt ?_ hp
    intro u hu
    split at hu
    · exact hu
    · split at hu
      · cases src
        case outputCompare => exact absurd hu Bool.false_ne_true
        all_goals exact hu
      · cases src <;> exact hu
  | cmp1Svc =>
    cases h
    refine pending_of_pending_takeInterrupt ?_ hp
    intro u hu
    have hdisarmed := pending_of_pending_expire hu
    cases src <;> exact hdisarmed
  | pubStep c => rw [exec_pubStep_frame c h] at hp; cases src <;> exact hp
  | publish c v => rw [exec_publish_frame c v h] at hp; cases src <;> exact hp
  | _ => simp [agent] at ha

/-! ### The not-empty flags, the completion flag and the fault bit of the output (R34) -/

/-- What two agents share besides the pending flags: the registers that both IRQ and MAIN write, and the
fault bits, which both HW and MAIN write. -/
def sharedRegisters (s : State) : Chan Bool × Bool × BitVec 3 := (s.mbNe, s.outDone, s.flt)

/-- The direction in which IRQ moves them: a publish fills the mailbox, the end of a period sets the
completion flag. -/
structure SharedRise (s t : State) : Prop where
  notEmpty : ∀ c : Ch, s.mbNe.get c = true → t.mbNe.get c = true
  done : s.outDone = true → t.outDone = true

/-- The direction in which MAIN moves them: a take empties the mailbox, a poll clears the completion flag,
and no fault raised is OutputHazard. -/
structure SharedFall (s t : State) : Prop where
  notEmpty : ∀ c : Ch, t.mbNe.get c = true → s.mbNe.get c = true
  done : t.outDone = true → s.outDone = true
  hazard : hasFault t.flt .outputHazard = hasFault s.flt .outputHazard

theorem sharedRegisters_eq_iff {s t : State} :
    sharedRegisters t = sharedRegisters s ↔ t.mbNe = s.mbNe ∧ t.outDone = s.outDone ∧ t.flt = s.flt := by
  simp [sharedRegisters]

theorem SharedRise.of_eq {s t : State} (h : sharedRegisters t = sharedRegisters s) : SharedRise s t := by
  obtain ⟨hne, hdone, _⟩ := sharedRegisters_eq_iff.1 h
  exact ⟨fun _ => hne ▸ id, hdone ▸ id⟩

theorem SharedFall.of_hazard_eq {s t : State} (hne : t.mbNe = s.mbNe) (hdone : t.outDone = s.outDone)
    (hhazard : hasFault t.flt .outputHazard = hasFault s.flt .outputHazard) : SharedFall s t :=
  ⟨fun _ => hne ▸ id, hdone ▸ id, hhazard⟩

theorem SharedFall.of_eq {s t : State} (h : sharedRegisters t = sharedRegisters s) : SharedFall s t := by
  obtain ⟨hne, hdone, hflt⟩ := sharedRegisters_eq_iff.1 h
  exact .of_hazard_eq hne hdone (by rw [hflt])

theorem SharedFall.trans {s t u : State} (h : SharedFall s t) (h' : SharedFall t u) : SharedFall s u :=
  ⟨fun c hc => h.notEmpty c (h'.notEmpty c hc), fun hd => h.done (h'.done hd),
    h'.hazard.trans h.hazard⟩

theorem Chan_get_of_get_set_false {x : Chan Bool} {c d : Ch} (h : (x.set c false).get d = true) :
    x.get d = true := by
  cases c <;> cases d <;> simp_all

theorem Chan_get_set_true_of_get {x : Chan Bool} {c d : Ch} (h : x.get d = true) :
    (x.set c true).get d = true := by
  cases c <;> cases d <;> simp_all

/-- R70: only step P4 writes the not-empty flag, and sets it. -/
theorem pubStepOp_sharedRise (c : Ch) (s : State) : SharedRise s (pubStepOp c s) := by
  rcases pubStepOp_cases c s with ⟨_, h⟩ | ⟨_, h⟩ | ⟨_, h⟩ | ⟨_, h⟩ | ⟨_, h⟩ | ⟨_, h⟩ <;> rw [h]
  on_goal 5 => exact ⟨fun _ => Chan_get_set_true_of_get, id⟩
  all_goals exact .of_eq rfl

/-- R71: only step T6 writes the not-empty flag, and clears it. -/
theorem takeStepOp_sharedFall (c : Ch) (s : State) : SharedFall s (takeStepOp c s) := by
  rcases takeStepOp_cases c s with ⟨_, _, h⟩ | ⟨_, _, h⟩ | ⟨_, h⟩ | ⟨_, h⟩ | ⟨_, h⟩ | ⟨_, _, h⟩ |
    ⟨_, _, h⟩ | ⟨_, h⟩ <;> rw [h]
  on_goal 8 => exact ⟨fun _ => Chan_get_of_get_set_false, id, rfl⟩
  all_goals exact .of_eq rfl

theorem takeUntilIdle_sharedFall (n : Nat) (c : Ch) (s : State) : SharedFall s (takeUntilIdle n c s) :=
  takeUntilIdle_induct (P := SharedFall s) c (fun t h => h.trans (takeStepOp_sharedFall c t)) n s
    (.of_eq rfl)

/-- R99: a stage that ends sets the completion flag or leaves it. -/
theorem outDone_expire {st : Stage} {s : State} (h : s.outDone = true) :
    (expire st s).outDone = true := by
  have hclose : ∀ st u, u.outDone = true → (closeStage st u).outDone = true := by
    intro st u hu; cases st <;> simp_all [closeStage]
  exact enterStage_induct (P := fun u => u.outDone = true) (fun st u hu => by cases st <;> exact hu)
    hclose (fun _ hu => hu) (fun _ _ hu => hu) stageDepth st.next _ (hclose st s h)

/-- R25: another fault than OutputHazard leaves its bit. -/
theorem outputHazard_raiseFault {f : FaultName} (hf : f ≠ .outputHazard) (s : State) :
    hasFault (raiseFault f s).flt .outputHazard = hasFault s.flt .outputHazard := by
  cases f
  case outputHazard => exact absurd rfl hf
  all_goals simp [raiseFault, hasFault, faultBit]

theorem setW_sharedFall (a b : Word) (s : State) : SharedFall s (setW a b s) := by
  unfold setW
  split
  · exact .of_hazard_eq rfl rfl (outputHazard_raiseFault (by decide) s)
  · exact .of_eq rfl

theorem mixOp_sharedFall (p q : Word) (s : State) : SharedFall s (mixOp p q s) :=
  have hfresh : SharedFall s { s with fresh := .both false } := .of_eq rfl
  hfresh.trans (setW_sharedFall _ _ _)

theorem load_sharedRegisters {s t : State} (h : load s = some t) :
    sharedRegisters t = sharedRegisters s := by
  unfold load at h
  split at h <;> cases h
  rfl

theorem exec_boot_sharedFall (j : Bool) {s t : State} (h : exec (.boot j) s = .next t) :
    SharedFall s t := by
  simp only [exec, execBoot] at h
  split at h
  · split at h
    · cases h; exact .of_eq rfl
    · split at h <;> cases h
      · rename_i u hu
        exact .of_eq (load_sharedRegisters hu :)
      · exact .of_hazard_eq rfl rfl (outputHazard_raiseFault (by decide) _)
  · cases h; exact .of_eq rfl

theorem exec_irq_sharedRise {i : Instr} {s t : State} (h : exec i s = .next t) (ha : agent i = .irq) :
    SharedRise s t := by
  cases i with
  | ovf0Svc => exact .of_eq (congrArg sharedRegisters (exec_ovf0Svc_frame h) :)
  | capture => exact .of_eq (congrArg sharedRegisters (exec_capture_frame h) :)
  | ovf1Svc => exact .of_eq (congrArg sharedRegisters (exec_ovf1Svc_frame h) :)
  | cmp1Svc =>
    have hne : t.mbNe = s.mbNe := (congrArg State.mbNe (exec_cmp1Svc_frame h) :)
    cases h
    exact ⟨fun _ => hne ▸ id, fun hs => takeInterrupt_induct (P := fun u => u.outDone = true) _ _ hs
      fun _ => outDone_expire hs⟩
  | pubStep c => cases h; exact pubStepOp_sharedRise c s
  | publish c v => exact .of_eq (congrArg sharedRegisters (exec_publish_frame c v h) :)
  | _ => simp [agent] at ha

theorem exec_main_sharedFall {i : Instr} {s t : State} (h : exec i s = .next t) (ha : agent i = .main) :
    SharedFall s t := by
  cases i with
  | now => exact .of_eq (congrArg sharedRegisters (exec_now_frame h) :)
  | irqMask => exact .of_eq (congrArg sharedRegisters (exec_irqMask_frame h) :)
  | irqUnmask => exact .of_eq (congrArg sharedRegisters (exec_irqUnmask_frame h) :)
  | mix =>
    simp only [exec, execMix] at h
    split at h <;> cases h
    · exact mixOp_sharedFall _ _ s
    · exact .of_eq rfl
  | outStart => exact .of_eq (congrArg sharedRegisters (exec_outStart_frame h) :)
  | outPoll => cases h; exact ⟨fun _ => id, fun hd => absurd hd Bool.false_ne_true, rfl⟩
  | boot j => exact exec_boot_sharedFall j h
  | outCfg e => exact .of_eq (congrArg sharedRegisters (exec_outCfg_frame e h) :)
  | takeStep c => cases h; exact takeStepOp_sharedFall c s
  | tryTake c =>
    simp only [exec, execTryTake] at h
    split at h <;> cases h
    · exact takeUntilIdle_sharedFall 6 c s
    · exact .of_eq rfl
  | calStep c => exact .of_eq (congrArg sharedRegisters (exec_calStep_frame c h) :)
  | calSample c w => exact .of_eq (congrArg sharedRegisters (exec_calSample_frame c w h) :)
  | setWidths a b =>
    simp only [exec, execSetWidths] at h
    split at h <;> cases h
    · exact setW_sharedFall a b s
    · exact .of_eq rfl
  | xform p q =>
    simp only [exec, execXform] at h
    split at h <;> cases h
    · have hchv : SharedFall s { s with chv := ⟨p, q⟩ } := .of_eq rfl
      exact hchv.trans (mixOp_sharedFall p q _)
    · exact .of_eq rfl
  | _ => simp [agent] at ha

/-! ### OUT_START (R104) -/

/-- OUT_START either has no effect or starts a generator that does not run. -/
theorem exec_outStart_cases {s t : State} (h : exec .outStart s = .next t) :
    t = s ∨ s.run = false ∧ t.run = true := by
  simp only [exec, execOutStart] at h
  split at h <;> cases h
  · rename_i hc
    right
    rw [enterStage_frame]
    simp_all
  · exact .inl rfl

/-! ### The ownership table (R34) -/

theorem exec_hw_frame {i : Instr} {s t : State} (h : exec i s = .next t) (ha : agent i = .hw) :
    t = { s with cnt0 := t.cnt0, tov0 := t.tov0, tcnt1 := t.tcnt1, tov1 := t.tov1,
                 ocf1 := t.ocf1, flt := t.flt } := by
  cases i with
  | tickIn => rw [exec_tickIn_frame h]
  | tickOut => rw [exec_tickOut_frame h]
  | _ => simp [agent] at ha

theorem exec_hw_flt {i : Instr} {s t : State} (h : exec i s = .next t) (ha : agent i = .hw) :
    t.flt = s.flt ∨ t.flt = s.flt ||| 0b010#3 := by
  cases i with
  | tickIn => exact .inl (congrArg State.flt (exec_tickIn_frame h) :)
  | tickOut =>
    obtain ⟨_, _, hflt⟩ := exec_tickOut_flags h
    exact hflt
  | _ => simp [agent] at ha

theorem exec_env_frame {i : Instr} {s t : State} (hi : i ≠ .reset) (h : exec i s = .next t)
    (ha : agent i = .env) : t = { s with pins := t.pins, pcf := t.pcf, nvm := t.nvm } := by
  cases i with
  | reset => exact absurd rfl hi
  | pin lv => rw [exec_pin_frame lv h]
  | nvmSet a b => rw [exec_nvmSet_frame a b h]
  | _ => simp [agent] at ha

theorem exec_irq_frame {i : Instr} {s t : State} (h : exec i s = .next t) (ha : agent i = .irq) :
    t = { s with tov0 := t.tov0, ticks := t.ticks, pcf := t.pcf, prev := t.prev,
                 pulseOpen := t.pulseOpen, ref := t.ref, pubv := t.pubv, pubp := t.pubp,
                 mbVal := t.mbVal, mbSeq := t.mbSeq, mbNe := t.mbNe, tov1 := t.tov1,
                 ocf1 := t.ocf1, hi1 := t.hi1, ocie1 := t.ocie1, tcnt1 := t.tcnt1,
                 ocr1 := t.ocr1, stage := t.stage, w := t.w, out := t.out,
                 outDone := t.outDone } := by
  cases i with
  | ovf0Svc => rw [exec_ovf0Svc_frame h]
  | capture => rw [exec_capture_frame h]
  | ovf1Svc => rw [exec_ovf1Svc_frame h]
  | cmp1Svc => rw [exec_cmp1Svc_frame h]
  | pubStep c => rw [exec_pubStep_frame c h]
  | publish c v => rw [exec_publish_frame c v h]
  | _ => simp [agent] at ha

theorem exec_main_frame {i : Instr} {s t : State} (h : exec i s = .next t) (ha : agent i = .main)
    (hi : i ≠ .outStart) :
    t = { s with tkp := t.tkp, tks1 := t.tks1, tkv := t.tkv, tkne := t.tkne, tkok := t.tkok,
                 mbNe := t.mbNe, chv := t.chv, fresh := t.fresh, tsRes := t.tsRes,
                 pollRes := t.pollRes, calState := t.calState, calCnt := t.calCnt,
                 cmin := t.cmin, cmax := t.cmax, cmid := t.cmid, thr := t.thr,
                 recValid := t.recValid, ind := t.ind, mode := t.mode, engSt := t.engSt,
                 flt := t.flt, nw := t.nw, ch1En := t.ch1En, outDone := t.outDone,
                 ie := t.ie, pcie := t.pcie, toie0 := t.toie0, nvm := t.nvm } := by
  cases i with
  | outStart => exact absurd rfl hi
  | now => rw [exec_now_frame h]
  | irqMask => rw [exec_irqMask_frame h]
  | irqUnmask => rw [exec_irqUnmask_frame h]
  | mix => rw [exec_mix_frame h]
  | outPoll => rw [exec_outPoll_frame h]
  | boot j => rw [exec_boot_frame j h]
  | outCfg e => rw [exec_outCfg_frame e h]
  | takeStep c => rw [exec_takeStep_frame c h]
  | tryTake c => rw [exec_tryTake_frame c h]
  | calStep c => rw [exec_calStep_frame c h]
  | calSample c w => rw [exec_calSample_frame c w h]
  | setWidths a b => rw [exec_setWidths_frame a b h]
  | xform p q => rw [exec_xform_frame p q h]
  | _ => simp [agent] at ha

/-- Settles O59, agent by agent: the frame of its operations and the direction of the flags it shares. -/
theorem eachAgentWritesItsOwnRegisters : Obligations.EachAgentWritesItsOwnRegisters := by
  intro i s t hi h
  refine ⟨fun hw => ?_, fun env => ?_, fun irq => ?_, fun main => ?_⟩
  · have hset := pending_exec_of_hw_or_env hi h (.inl hw)
    exact ⟨exec_hw_frame h hw, hset .inputOverflow, hset .outputOverflow, hset .outputCompare,
      exec_hw_flt h hw⟩
  · exact ⟨exec_env_frame hi h env, pending_exec_of_hw_or_env hi h (.inr env) .pinChange⟩
  · have hclear := pending_of_pending_exec_irq h irq
    have hrise := exec_irq_sharedRise h irq
    exact ⟨exec_irq_frame h irq, hclear .inputOverflow, hclear .pinChange, hclear .outputOverflow,
      hclear .outputCompare, hrise.done, hrise.notEmpty⟩
  · have hfall := exec_main_sharedFall h main
    refine ⟨exec_main_frame h main, ?_, ?_, ?_, hfall.notEmpty, hfall.done, hfall.hazard⟩
    · rintro rfl
      exact exec_outStart_frame h
    · rintro rfl hne
      exact (exec_outStart_cases h).resolve_left hne
    · rintro rfl hne hinv
      obtain ⟨hrun, _⟩ := (exec_outStart_cases h).resolve_left hne
      have hidle := hinv.idle hrun
      exact ⟨hidle.overflow_disabled, hidle.compare_disabled⟩

end Sys2Proof.Machine
end

section
/-! PROOFS. The memory and its ordering (spec 20_memory.md): which operations write the store and that each
keeps its canonical form (R37, R44); and that the operations of a trace take effect one after another, in
order (R45), whether they are performed as a list or stepped through as a stream of words (R51). -/

namespace Sys2Proof.Machine

/-! ### The store (R37) -/

/-- R86 to R88: a sample leaves the store alone, or it ends in Finish, which writes the record of the
extremes and mid-points it leaves. -/
theorem calSampleOp_nvm_cases (c : Ch) (w : Word) (s : State) :
    (calSampleOp c w s).nvm = s.nvm ∨
      (calSampleOp c w s).nvm =
        writeRecord s.params.chkSeed s.nvm (calSampleOp c w s).cmin (calSampleOp c w s).cmax
          (calSampleOp c w s).cmid := by
  rcases calSampleOp_cases c w s with ⟨_, h⟩ | ⟨_, _, _, h⟩ | ⟨_, _, _, h⟩ | ⟨_, _, _, _, h⟩ |
    ⟨_, _, _, h⟩ | ⟨_, _, _, _, h⟩ | ⟨_, _, _, _, h⟩ | ⟨_, _, _, h⟩ | ⟨_, _, _, h⟩ <;> rw [h]
  any_goals exact .inl rfl
  exact .inr rfl

/-- R37: all that an operation can do to the store. Only NVM_SET writes it, and Finish, which only the two
calibration operations reach. -/
theorem exec_nvm_cases {i : Instr} {s t : State} (h : exec i s = .next t) :
    t.nvm = s.nvm ∨
    (∃ (a b : Byte) (ha : a.toNat < 13), i = .nvmSet a b ∧ t.nvm = nvmWrite s.nvm ⟨a.toNat, ha⟩ b) ∨
    (∃ c : Ch, (i = .calStep c ∨ ∃ w : Word, i = .calSample c w) ∧
      t.nvm = writeRecord s.params.chkSeed s.nvm t.cmin t.cmax t.cmid) := by
  cases i with
  | nvmSet a b =>
    simp only [exec, execNvmSet] at h
    split at h <;> cases h
    exact .inr (.inl ⟨a, b, ‹_›, rfl, rfl⟩)
  | calStep c =>
    simp only [exec, execCalStep] at h
    split at h <;> cases h
    · exact (calSampleOp_nvm_cases c _ _).imp id fun e => .inr ⟨c, .inl rfl, e⟩
    · exact .inl rfl
  | calSample c w =>
    simp only [exec, execCalSample] at h
    split at h <;> cases h
    · exact (calSampleOp_nvm_cases c w _).imp id fun e => .inr ⟨c, .inr ⟨w, rfl⟩, e⟩
    · exact .inl rfl
  | tickIn | tickOut => exact .inl (congrArg State.nvm (exec_hw_frame h rfl) :)
  | ovf0Svc | capture | ovf1Svc | cmp1Svc | pubStep _ | publish _ _ =>
    exact .inl (congrArg State.nvm (exec_irq_frame h rfl) :)
  | reset => exact .inl (congrArg State.nvm (exec_reset_frame h) :)
  | pin lv => exact .inl (congrArg State.nvm (exec_pin_frame lv h) :)
  | now => exact .inl (congrArg State.nvm (exec_now_frame h) :)
  | irqMask => exact .inl (congrArg State.nvm (exec_irqMask_frame h) :)
  | irqUnmask => exact .inl (congrArg State.nvm (exec_irqUnmask_frame h) :)
  | mix => exact .inl (congrArg State.nvm (exec_mix_frame h) :)
  | outStart => exact .inl (congrArg State.nvm (exec_outStart_frame h) :)
  | outPoll => exact .inl (congrArg State.nvm (exec_outPoll_frame h) :)
  | boot j => exact .inl (congrArg State.nvm (exec_boot_frame j h) :)
  | outCfg e => exact .inl (congrArg State.nvm (exec_outCfg_frame e h) :)
  | takeStep c => exact .inl (congrArg State.nvm (exec_takeStep_frame c h) :)
  | tryTake c => exact .inl (congrArg State.nvm (exec_tryTake_frame c h) :)
  | setWidths a b => exact .inl (congrArg State.nvm (exec_setWidths_frame a b h) :)
  | xform p q => exact .inl (congrArg State.nvm (exec_xform_frame p q h) :)

theorem nvmCanonical_exec {i : Instr} {s t : State} (hs : NvmCanonical s) (h : exec i s = .next t) :
    NvmCanonical t := by
  unfold NvmCanonical at hs ⊢
  rcases exec_nvm_cases h with e | ⟨a, b, ha, _, e⟩ | ⟨c, _, e⟩ <;> rw [e]
  · exact hs
  · exact wf_nvmWrite hs _ b
  · exact wf_writeRecord hs _ _ _ _

/-! ### One step, and several -/

/-- A step that answers a next state has performed a decoded operation. -/
theorem exists_exec_of_step {s t : State} (h : step s = .next t) :
    ∃ (i : Instr) (rest : List Byte),
      decodeOne s.stream = .op i rest ∧ exec i { s with stream := rest } = .next t := by
  unfold step at h
  split at h
  · cases h
  · cases h
  · exact ⟨_, _, ‹_›, h⟩

/-- Settles O54: moving the stream leaves the store alone, and every write of it is one of R44's. -/
theorem stepKeepsTheStoreCanonical : Obligations.StepKeepsTheStoreCanonical := by
  intro s t hs h
  obtain ⟨i, rest, _, hexec⟩ := exists_exec_of_step h
  exact nvmCanonical_exec (s := { s with stream := rest }) hs hexec

theorem run_succ_of_step {M : Host.Core} {s t : M.State} (h : M.step s = .next t) (n : Nat) :
    M.run (n + 1) s = M.run n t := by
  simp only [Host.Core.run, h]

/-! ### No operation reads the trace still to come -/

/-- The state with `r` as the trace still to come, every register and the store as they are. -/
def State.withStream (s : State) (r : List Byte) : State := { s with stream := r }

theorem withStream_of_stream_eq {s : State} {r : List Byte} (h : s.stream = r) : s.withStream r = s := by
  subst h; rfl

theorem withStream_ite (p : Prop) [Decidable p] (s t : State) (r : List Byte) :
    (if p then s else t).withStream r = if p then s.withStream r else t.withStream r :=
  apply_ite (·.withStream r) p s t

/-- The effect neither reads nor writes the trace still to come: it does the same before any other. -/
def StreamBlind (f : State → State) : Prop :=
  ∀ (s : State) (r : List Byte), f (s.withStream r) = (f s).withStream r

theorem StreamBlind.comp {f g : State → State} (hg : StreamBlind g) (hf : StreamBlind f) :
    StreamBlind (fun s => g (f s)) :=
  fun s r => (congrArg g (hf s r)).trans (hg (f s) r)

/-- A choice by a condition on the registers, which most conditions are by definition. -/
theorem StreamBlind.ite {p : State → Prop} [DecidablePred p] {f g : State → State}
    (hf : StreamBlind f) (hg : StreamBlind g)
    (hp : ∀ s r, p (s.withStream r) = p s := by exact fun _ _ => rfl) :
    StreamBlind (fun s => if p s then f s else g s) := by
  intro s r
  simp only [hp s r, hf s r, hg s r, withStream_ite]

/-- An effect under an enabling condition, without which the operation does nothing. -/
theorem StreamBlind.enabledBy {p : State → Prop} [DecidablePred p] {f : State → State}
    (hf : StreamBlind f) (hp : ∀ s r, p (s.withStream r) = p s := by exact fun _ _ => rfl) :
    StreamBlind (fun s => if p s then f s else s) :=
  hf.ite (fun _ _ => rfl) hp

theorem clearPending_streamBlind (src : Source) : StreamBlind (clearPending · src) := by
  cases src <;> exact fun _ _ => rfl

theorem eligible_withStream (src : Source) (s : State) (r : List Byte) :
    eligible (s.withStream r) src = eligible s src := by
  cases src <;> rfl

theorem takeInterrupt_streamBlind (src : Source) {body : State → State} (hbody : StreamBlind body) :
    StreamBlind (takeInterrupt src body) :=
  (hbody.comp (clearPending_streamBlind src)).enabledBy fun s r =>
    congrArg (· = true) (eligible_withStream src s r)

theorem setW_streamBlind (a b : Word) : StreamBlind (setW a b) :=
  .ite (fun _ _ => rfl) (fun _ _ => rfl)

theorem mixOp_streamBlind (p q : Word) : StreamBlind (mixOp p q) :=
  fun s r => setW_streamBlind _ _ { s with fresh := .both false } r

theorem pubStepOp_streamBlind (c : Ch) : StreamBlind (pubStepOp c) := by
  intro s r
  unfold pubStepOp
  dsimp only [State.withStream]
  cases s.pubp.get c <;> rfl

theorem takeStepOp_streamBlind (c : Ch) : StreamBlind (takeStepOp c) := by
  intro s r
  have hphase : (s.withStream r).tkp.get c = s.tkp.get c := rfl
  simp only [takeStepOp, hphase]
  cases s.tkp.get c with
  | idle | t5 => dsimp only; rw [withStream_ite]; rfl
  | t2 | t3 | t4 | t6 => rfl

theorem takeUntilIdle_streamBlind (n : Nat) (c : Ch) : StreamBlind (takeUntilIdle n c) := by
  induction n with
  | zero => exact fun _ _ => rfl
  | succ n ih =>
    intro s r
    simp only [takeUntilIdle, takeStepOp_streamBlind c s r]
    rw [withStream_ite, ← ih]
    rfl

theorem captureChannel_streamBlind (t : Word) (c : Ch) (l : Bool) :
    StreamBlind (captureChannel t c l) := by
  intro s r
  have hprev : (s.withStream r).prev.get c = s.prev.get c := rfl
  have hopen : (s.withStream r).pulseOpen.get c = s.pulseOpen.get c := rfl
  simp only [captureChannel, hprev, hopen]
  cases s.prev.get c <;> cases l
  case true.false => dsimp only; split <;> rfl
  all_goals rfl

theorem captureBody_streamBlind : StreamBlind captureBody := by
  intro s r
  have hch0 := captureChannel_streamBlind (now s) .ch0 (level s.pins .ch0) s r
  exact (congrArg (captureChannel (now s) .ch1 (level s.pins .ch1)) hch0).trans
    (captureChannel_streamBlind _ _ _ _ r)

theorem openStage_streamBlind (st : Stage) : StreamBlind (openStage st) := by
  cases st <;> exact fun _ _ => rfl

theorem closeStage_streamBlind (st : Stage) : StreamBlind (closeStage st) := by
  cases st <;> exact fun _ _ => rfl

theorem duration_withStream (st : Stage) (s : State) (r : List Byte) :
    duration st (s.withStream r) = duration st s := by
  cases st <;> rfl

theorem enterStage_streamBlind (n : Nat) (st : Stage) : StreamBlind (enterStage n st) := by
  induction n generalizing st with
  | zero => exact fun _ _ => rfl
  | succ n ih =>
    intro s r
    have hclose : StreamBlind (fun t => closeStage st { t with ocie1 := false }) :=
      (closeStage_streamBlind st).comp fun _ _ => rfl
    simp only [enterStage_succ, openStage_streamBlind st s r, duration_withStream, withStream_ite]
    rw [← (ih st.next).comp hclose]
    rfl

theorem expire_streamBlind (st : Stage) : StreamBlind (expire st) :=
  (enterStage_streamBlind stageDepth st.next).comp (closeStage_streamBlind st)

theorem load_withStream (s : State) (r : List Byte) :
    load (s.withStream r) = (load s).map (·.withStream r) := by
  unfold load
  rw [apply_ite (Option.map _)]
  rfl

theorem calStable_streamBlind {leave : State → State} (h : StreamBlind leave) :
    StreamBlind (calStable leave) :=
  .ite (h.comp fun _ _ => rfl) (fun _ _ => rfl)

theorem calHigh_streamBlind (w : Word) : StreamBlind (calHigh w) :=
  .ite (fun _ _ => rfl) (calStable_streamBlind fun _ _ => rfl)

theorem calLow_streamBlind (w : Word) : StreamBlind (calLow w) :=
  .ite (fun _ _ => rfl) (calStable_streamBlind (.ite (fun _ _ => rfl) (fun _ _ => rfl)))

theorem calWaitStep_streamBlind : StreamBlind calWaitStep :=
  .ite (fun _ _ => rfl) (fun _ _ => rfl)

theorem calSampleOp_streamBlind (c : Ch) (w : Word) : StreamBlind (calSampleOp c w) := by
  have active {f : State → State} (hf : StreamBlind f) :
      StreamBlind (fun s => if c = calActive s.calState then f s else s) := hf.enabledBy
  intro s r
  have hstate : (s.withStream r).calState = s.calState := rfl
  simp only [calSampleOp, hstate]
  cases calKind s.calState with
  | terminal => rfl
  | high => exact active (calHigh_streamBlind w) s r
  | low => exact active (calLow_streamBlind w) s r
  | wait => exact active calWaitStep_streamBlind s r

/-- R45, R51: a legal operation is an effect on the registers and the store alone. -/
theorem exec_eq_next_streamBlind {i : Instr} (hi : wellFormed i = true) :
    ∃ f : State → State, (∀ s, exec i s = .next (f s)) ∧ StreamBlind f := by
  cases i with
  | reset | tickIn | now | outPoll | pin _ | outCfg _ => exact ⟨_, fun _ => rfl, fun _ _ => rfl⟩
  | nvmSet a b =>
    simp only [wellFormed, offsetInRange, decide_eq_true_eq] at hi
    exact ⟨_, fun _ => dif_pos (by omega), fun _ _ => rfl⟩
  | tickOut => exact ⟨_, fun _ => rfl, .ite (fun _ _ => rfl) (fun _ _ => rfl)⟩
  | ovf0Svc => exact ⟨_, fun _ => rfl, takeInterrupt_streamBlind _ fun _ _ => rfl⟩
  | capture => exact ⟨_, fun _ => rfl, takeInterrupt_streamBlind _ captureBody_streamBlind⟩
  | ovf1Svc =>
    exact ⟨_, fun _ => rfl, takeInterrupt_streamBlind _
      (.ite (fun _ _ => rfl) (.ite (fun _ _ => rfl) (fun _ _ => rfl)))⟩
  | cmp1Svc =>
    exact ⟨_, fun _ => rfl, takeInterrupt_streamBlind _ fun s r =>
      expire_streamBlind s.stage { s with ocie1 := false } r⟩
  | irqMask | irqUnmask | publish _ _ => exact ⟨_, fun _ => rfl, .enabledBy fun _ _ => rfl⟩
  | mix => exact ⟨_, fun _ => rfl, .enabledBy fun s r => mixOp_streamBlind _ _ s r⟩
  | xform p q =>
    exact ⟨_, fun _ => rfl, .enabledBy ((mixOp_streamBlind p q).comp fun _ _ => rfl)⟩
  | setWidths a b => exact ⟨_, fun _ => rfl, (setW_streamBlind a b).enabledBy⟩
  | outStart =>
    exact ⟨_, fun _ => rfl,
      .enabledBy ((enterStage_streamBlind stageDepth .stage0).comp fun _ _ => rfl)⟩
  | boot j =>
    refine ⟨_, fun _ => rfl, .enabledBy (.ite (fun _ _ => rfl) fun s r => ?_)⟩
    have hload : load { s.withStream r with mode := .running } = _ :=
      load_withStream { s with mode := .running } r
    simp only [hload]
    cases load { s with mode := .running } <;> rfl
  | pubStep c => exact ⟨_, fun _ => rfl, pubStepOp_streamBlind c⟩
  | takeStep c => exact ⟨_, fun _ => rfl, takeStepOp_streamBlind c⟩
  | tryTake c => exact ⟨_, fun _ => rfl, (takeUntilIdle_streamBlind 6 c).enabledBy⟩
  | calStep c =>
    exact ⟨_, fun _ => rfl, .enabledBy fun s r =>
      calSampleOp_streamBlind c (s.chv.get c) { s with fresh := s.fresh.set c false } r⟩
  | calSample c w =>
    exact ⟨_, fun _ => rfl, .enabledBy ((calSampleOp_streamBlind c w).comp fun _ _ => rfl)⟩

theorem exec_withStream {i : Instr} (hi : wellFormed i = true) {s t : State}
    (h : exec i s = .next t) (r : List Byte) : exec i (s.withStream r) = .next (t.withStream r) := by
  obtain ⟨f, hf, hblind⟩ := exec_eq_next_streamBlind hi
  cases (hf s).symm.trans h
  rw [hf, hblind]

/-! ### The word at the front of the stream (R58) -/

/-- R58, last sentence: the word of a legal operation decodes to it, and leaves what follows. -/
theorem decodeOne_encode {i : Instr} (hi : wellFormed i = true) (rest : List Byte) :
    decodeOne (encode i ++ rest) = .op i rest := by
  cases i with
  | pin lv | boot e | outCfg e | pubStep c | takeStep c | tryTake c | calStep c =>
    simp [encode, opcode, operands, decodeOne, operandBytes, decodeB, withOperand, decodedOf]
  | nvmSet a b =>
    have ha : offsetInRange a = true := hi
    simp [encode, opcode, operands, decodeOne, operandBytes, decodeBB, ha, decodedOf]
  | publish c v | calSample c v =>
    simp [encode, opcode, operands, immBytes, decodeOne, operandBytes, decodeBH, withOperand, decodedOf]
  | setWidths a b | xform a b =>
    simp [encode, opcode, operands, immBytes, decodeOne, operandBytes, decodeHH, decodedOf]
  | _ => rfl

/-- R45, R51: the operation whose word is at the front is performed, and the stream moves past its word. -/
theorem step_encode {i : Instr} (hi : wellFormed i = true) {s t : State} (h : exec i s = .next t)
    (rest : List Byte) : step (s.withStream (encode i ++ rest)) = .next (t.withStream rest) :=
  (step_of_decodeOne_op (decodeOne_encode hi rest)).trans (exec_withStream hi h rest)

/-- Settles O7, by induction on the list: each step performs the first operation and leaves the stream of
the others, which the operation has not read. -/
theorem steppingAStreamPerformsItsOperations : Obligations.SteppingAStreamPerformsItsOperations := by
  intro l s rest hl
  induction l generalizing s with
  | nil => rfl
  | cons i l ih =>
    obtain ⟨hi, hl⟩ := List.forall_mem_cons.1 hl
    obtain ⟨t, ht⟩ := exec_next hi { s with stream := rest }
    have hstep := step_encode hi ht (l.flatMap encode ++ rest)
    rw [execList_cons_next ht, List.flatMap_cons, List.append_assoc]
    have hstream : t.withStream rest = t := withStream_of_stream_eq (exec_stream ht)
    exact (run_succ_of_step (M := Sys2Proof.core) hstep l.length).trans
      ((ih t hl).trans (congrArg (execList l) hstream))

end Sys2Proof.Machine
end

section
/-! PROOFS. Encoding (spec 30_encoding.md): the decoder and the encoder are inverse on one word (R58), on
the examples of R55 and on a whole stream, and what spells no operation is refused (R56). -/

namespace Sys2Proof.Machine

/-! ### From the operation to its word -/

/-- Settles O1: the law `decodeOne_encode` of the word at the front of a stream. -/
theorem decodeOfEncodeIsTheInstruction : Obligations.DecodeOfEncodeIsTheInstruction :=
  fun _ rest hi => decodeOne_encode hi rest

/-- The word of a legal operation spells it: that it decodes is R58. -/
theorem spells_of_encode_eq {i : Instr} {bytes : List Byte} (hi : wellFormed i = true)
    (h : encode i = bytes) : Spells i bytes :=
  ⟨h, fun rest => h ▸ decodeOne_encode hi rest⟩

/-- Settles O4: each operation is legal, and writing its word out gives the bytes. -/
theorem tableWordsSpellTheirOperations : Obligations.TableWordsSpellTheirOperations :=
  ⟨spells_of_encode_eq rfl rfl, spells_of_encode_eq rfl rfl, spells_of_encode_eq rfl rfl,
    spells_of_encode_eq rfl rfl, spells_of_encode_eq rfl rfl, spells_of_encode_eq rfl rfl,
    spells_of_encode_eq rfl rfl⟩

/-! ### From the word to the operation -/

theorem withOperand_eq_ok {α : Type} {op a : Byte} {field : Option α} {make : α → Instr} {i : Instr} :
    withOperand op a field make = .ok i ↔ ∃ x, field = some x ∧ make x = i := by
  cases field <;> simp [withOperand]

theorem decodedOf_eq_op {r : Except Illegal Instr} {i : Instr} {rest rest' : List Byte} :
    decodedOf r rest = .op i rest' ↔ r = .ok i ∧ rest = rest' := by
  cases r <;> simp [decodedOf]

/-- The bytes are a legal operation's word. -/
def IsWordOf (i : Instr) (bytes : List Byte) : Prop := wellFormed i = true ∧ encode i = bytes

/-- Where the opcode is the operation's own, its operand bytes are left to compare. -/
theorem isWordOf_cons {i : Instr} {op : Byte} {bytes : List Byte} (hi : wellFormed i = true)
    (hop : op.toNat = (opcode i).toNat) (h : operands i = bytes) : IsWordOf i (op :: bytes) :=
  ⟨hi, congrArg₂ List.cons (BitVec.eq_of_toNat_eq hop).symm h⟩

theorem isWordOf_of_decodeZ {op : Byte} {i : Instr} (h : decodeZ op = .ok i) : IsWordOf i [op] := by
  unfold decodeZ at h
  split at h <;> cases h <;> exact isWordOf_cons rfl ‹_› rfl

theorem isWordOf_of_decodeB {op a : Byte} {i : Instr} (h : decodeB op a = .ok i) :
    IsWordOf i [op, a] := by
  unfold decodeB at h
  split at h
  case h_8 => cases h
  all_goals
    obtain ⟨x, hx, rfl⟩ := withOperand_eq_ok.1 h
    simp only [levelsOperand_iff, boolOperand_iff, chOperand_iff] at hx
    exact isWordOf_cons rfl ‹_› (congrArg (fun b => [b]) hx.symm)

theorem isWordOf_of_decodeBB {op a b : Byte} {i : Instr} (h : decodeBB op a b = .ok i) :
    IsWordOf i [op, a, b] := by
  unfold decodeBB at h
  split at h
  · split at h
    next ha => cases h; exact isWordOf_cons ha ‹_› rfl
    next => cases h
  · cases h

theorem immBytes_joinBytes (lo hi : Byte) : immBytes (joinBytes lo hi) = [lo, hi] := by
  simp [immBytes]

theorem isWordOf_of_decodeBH {op a lo hi : Byte} {i : Instr}
    (h : decodeBH op a (joinBytes lo hi) = .ok i) : IsWordOf i [op, a, lo, hi] := by
  unfold decodeBH at h
  split at h
  case h_3 => cases h
  all_goals
    obtain ⟨c, hc, rfl⟩ := withOperand_eq_ok.1 h
    exact isWordOf_cons rfl ‹_›
      (congrArg₂ List.cons ((chOperand_iff a c).1 hc).symm (immBytes_joinBytes lo hi))

theorem isWordOf_of_decodeHH {op xlo xhi ylo yhi : Byte} {i : Instr}
    (h : decodeHH op (joinBytes xlo xhi) (joinBytes ylo yhi) = .ok i) :
    IsWordOf i [op, xlo, xhi, ylo, yhi] := by
  unfold decodeHH at h
  split at h <;> cases h
  all_goals
    exact isWordOf_cons rfl ‹_›
      (congrArg₂ (· ++ ·) (immBytes_joinBytes xlo xhi) (immBytes_joinBytes ylo yhi))

/-- A word read whole, from the front of `tail`: the operation's own word is what was read. -/
theorem word_of_decodedOf {r : Except Illegal Instr} {i : Instr} {word tail rest : List Byte}
    (hr : ∀ {j}, r = .ok j → IsWordOf j word) (h : decodedOf r tail = .op i rest) :
    wellFormed i = true ∧ word ++ tail = encode i ++ rest := by
  obtain ⟨hi, rfl⟩ := decodedOf_eq_op.1 h
  obtain ⟨hlegal, rfl⟩ := hr hi
  exact ⟨hlegal, rfl⟩

/-- Settles O2: only a word read whole, in one of the five formats of R55, gives an operation. -/
theorem decodedBytesAreTheEncoding : Obligations.DecodedBytesAreTheEncoding := by
  intro bytes i rest h
  unfold decodeOne at h
  split at h
  · cases h
  · split at h
    case h_1 => exact word_of_decodedOf isWordOf_of_decodeZ h
    case h_2 => exact word_of_decodedOf isWordOf_of_decodeB h
    case h_3 => exact word_of_decodedOf isWordOf_of_decodeBB h
    case h_4 => exact word_of_decodedOf isWordOf_of_decodeBH h
    case h_5 => exact word_of_decodedOf isWordOf_of_decodeHH h
    all_goals cases h

/-! ### A whole stream -/

/-- R58's loop emits the operations of the words, given a turn for each and one to see the end. -/
theorem decodeLoop_flatMap_encode {l : List Instr} (hl : ∀ i ∈ l, wellFormed i = true) {fuel : Nat}
    (hfuel : l.length < fuel) (k : Nat) (acc : List Instr) :
    decodeLoop fuel k acc (l.flatMap encode) = .ops (acc.reverse ++ l) := by
  induction l generalizing fuel k acc with
  | nil =>
    obtain ⟨n, rfl⟩ := Nat.exists_eq_add_one.2 hfuel
    simp [decodeLoop, decodeOne]
  | cons i l ih =>
    obtain ⟨hi, hl⟩ := List.forall_mem_cons.1 hl
    obtain ⟨n, rfl⟩ := Nat.exists_eq_add_one.2 (Nat.zero_lt_of_lt hfuel)
    have hn : l.length < n := Nat.lt_of_succ_lt_succ hfuel
    simp [decodeLoop, decodeOne_encode hi, ih hl hn]

/-- R52: a word has at least its opcode byte. -/
theorem length_le_length_flatMap_encode (l : List Instr) : l.length ≤ (l.flatMap encode).length := by
  induction l with
  | nil => rfl
  | cons i l ih => simp only [List.flatMap_cons, List.length_append, List.length_cons, encode]; omega

/-- Settles O3: `decodeStream` allows a turn per byte, so one per word. -/
theorem streamOfWordsDecodesToItsOperations : Obligations.StreamOfWordsDecodesToItsOperations :=
  fun l hl => decodeLoop_flatMap_encode hl (Nat.lt_succ_of_le (length_le_length_flatMap_encode l)) 0 []

/-! ### What spells no operation -/

theorem step_of_decodeOne_illegal {s : State} {why : Illegal} (h : decodeOne s.stream = .illegal why) :
    step s = .refused (.illegalWord why) := by
  simp only [step, h]

theorem step_of_stream_nil {s : State} (h : s.stream = []) : step s = .refused .streamFinished := by
  simp only [step, h, decodeOne]

/-- Settles O6: the two branches of a step in which nothing is performed. -/
theorem stepRefusesWhatSpellsNoOperation : Obligations.StepRefusesWhatSpellsNoOperation :=
  ⟨fun _ _ => step_of_decodeOne_illegal, fun _ => step_of_stream_nil⟩

end Sys2Proof.Machine
end

section
/-! PROOFS. The Edge Timestamper (spec 40_timestamper.md): what TICK_IN, OVF0_SVC and NOW do (R62 to R64),
that no other operation but RESET moves the timestamp, and that it counts the ticks along a trace on which
no overflow tick is lost (R65, R66). -/

namespace Sys2Proof.Machine

/-! ### TICK_IN (R62) -/

theorem counterWrapped_add_one (x : Byte) : counterWrapped (x + 1#8) = decide (x.toNat = 255) := by
  rw [counterWrapped, Bool.beq_eq_decide_eq, decide_eq_decide]
  bv_omega

theorem exec_tickIn_timer {s t : State} (h : exec .tickIn s = .next t) :
    t.cnt0.toNat = (s.cnt0.toNat + 1) % 256 ∧
      t.tov0 = (s.tov0 || decide (s.cnt0.toNat = 255)) ∧ t.ticks = s.ticks := by
  cases h
  exact ⟨BitVec.toNat_add _ _, congrArg (s.tov0 || ·) (counterWrapped_add_one s.cnt0), rfl⟩

/-- Settles O8, by the new values of the timer and the frame. -/
theorem tickInCountsAndFlagsTheWrap : Obligations.TickInCountsAndFlagsTheWrap := by
  refine ⟨spells_of_encode_eq rfl rfl, rfl, fun s => ?_⟩
  obtain ⟨t, ht⟩ := exec_next (i := .tickIn) rfl s
  obtain ⟨hcnt, htov, _⟩ := exec_tickIn_timer ht
  have hframe := exec_tickIn_frame ht
  exact ⟨t, ht, hcnt, htov, hframe, fun a => (congrArg (fun u => nvmRead u.nvm a) hframe :)⟩

/-- R66: the operation is a TICK_IN that wraps the counter while the last wrap is still pending. -/
def LosesTick (i : Instr) (s : State) : Prop :=
  i = .tickIn ∧ s.cnt0 = 0xFF#8 ∧ s.tov0 = true

/-- R62, R65: a wrap moves 256 counts from `CNT0` to the pending overflow, which `Now()` adds back. -/
theorem now_exec_tickIn {s t : State} (hkept : ¬LosesTick .tickIn s) (h : exec .tickIn s = .next t) :
    now t = now s + 1#16 := by
  obtain ⟨hcnt, htov, hticks⟩ := exec_tickIn_timer h
  apply BitVec.eq_of_toNat_eq
  rw [BitVec.toNat_add, toNat_now, toNat_now, hcnt, htov, hticks, BitVec.toNat_ofNat]
  by_cases hwrap : s.cnt0.toNat = 255
  · have hcleared : s.tov0 = false :=
      eq_false_of_ne_true fun hp => hkept ⟨rfl, BitVec.eq_of_toNat_eq hwrap, hp⟩
    simp only [hwrap, hcleared, decide_true, Bool.or_true, Bool.toNat_true, Bool.toNat_false]
    omega
  · simp only [hwrap, decide_false, Bool.or_false]
    omega

/-! ### OVF0_SVC (R63) -/

theorem exec_ovf0Svc_of_eligible {s : State} (h : eligible s .inputOverflow = true) :
    exec .ovf0Svc s = .next { s with tov0 := false, ticks := s.ticks + 1#8 } :=
  congrArg Host.Outcome.next (takeInterrupt_of_eligible _ h)

theorem exec_ovf0Svc_of_not_eligible {s : State} (h : eligible s .inputOverflow = false) :
    exec .ovf0Svc s = .next s :=
  congrArg Host.Outcome.next (takeInterrupt_of_not_eligible _ h)

/-- R63: the overflow leaves the pending flag for `TICKS`, and `Now()` reads their sum. -/
theorem now_exec_ovf0Svc {s t : State} (h : exec .ovf0Svc s = .next t) : now t = now s := by
  cases helig : eligible s .inputOverflow with
  | false => cases (exec_ovf0Svc_of_not_eligible helig).symm.trans h; rfl
  | true =>
    cases (exec_ovf0Svc_of_eligible helig).symm.trans h
    obtain ⟨_, _, hpending, _⟩ := (eligible_iff s .inputOverflow).1 helig
    have htov : s.tov0 = true := hpending
    simp [now, htov]

/-- Settles O9: the four conditions are eligibility. -/
theorem ovf0SvcCountsOneOverflowTick : Obligations.Ovf0SvcCountsOneOverflowTick := by
  refine ⟨spells_of_encode_eq rfl rfl, rfl, ?_, ?_⟩
  · intro s hie htoie htov hidle
    have hexec := exec_ovf0Svc_of_eligible ((eligible_iff s .inputOverflow).2 ⟨hie, htoie, htov, hidle⟩)
    exact ⟨_, hexec, rfl, BitVec.toNat_add _ _, now_exec_ovf0Svc hexec, rfl, fun _ => rfl⟩
  · intro s hdisabled
    exact exec_ovf0Svc_of_not_eligible ((not_eligible_iff s .inputOverflow).2 hdisabled)

/-! ### NOW (R64) -/

/-- Settles O10, with the value of `Now()` by R61. -/
theorem nowSamplesTheCorrectedTimestamp : Obligations.NowSamplesTheCorrectedTimestamp :=
  ⟨spells_of_encode_eq rfl rfl, rfl, fun s => ⟨_, rfl, toNat_now s, rfl, fun _ => rfl⟩⟩

/-! ### The timestamp along a trace (R65) -/

/-- No operation but TICK_IN and RESET moves the timestamp. -/
theorem now_exec_of_ne_tickIn {i : Instr} {s t : State} (hreset : i ≠ .reset) (htick : i ≠ .tickIn)
    (h : exec i s = .next t) : now t = now s := by
  cases ha : agent i with
  | env => exact (congrArg now (exec_env_frame hreset h ha) :)
  | main =>
    by_cases hstart : i = .outStart
    · subst hstart
      exact (congrArg now (exec_outStart_frame h) :)
    · exact (congrArg now (exec_main_frame h ha hstart) :)
  | hw =>
    cases i with
    | tickIn => exact absurd rfl htick
    | tickOut => exact (congrArg now (exec_tickOut_frame h) :)
    | _ => simp [agent] at ha
  | irq =>
    cases i with
    | ovf0Svc => exact now_exec_ovf0Svc h
    | capture => exact (congrArg now (exec_capture_frame h) :)
    | ovf1Svc => exact (congrArg now (exec_ovf1Svc_frame h) :)
    | cmp1Svc => exact (congrArg now (exec_cmp1Svc_frame h) :)
    | pubStep c => exact (congrArg now (exec_pubStep_frame c h) :)
    | publish c v => exact (congrArg now (exec_publish_frame c v h) :)
    | _ => simp [agent] at ha

/-- R65 for one operation. -/
theorem now_exec {i : Instr} {s t : State} (hreset : i ≠ .reset) (hkept : ¬LosesTick i s)
    (h : exec i s = .next t) : now t = now s + BitVec.ofNat 16 ([i].count .tickIn) := by
  by_cases htick : i = .tickIn
  · subst htick
    exact now_exec_tickIn hkept h
  · simp [now_exec_of_ne_tickIn hreset htick h, htick]

/-- R66 for the first operation and for the rest, in the state that the first one reaches. -/
theorem noTickLost_cons {i : Instr} {s t : State} (h : exec i s = .next t) (l : List Instr) :
    noTickLost (i :: l) s = true ↔ ¬LosesTick i s ∧ noTickLost l t = true := by
  have hloses : (i == .tickIn && s.cnt0 == 0xFF#8 && s.tov0) = true ↔ LosesTick i s := by
    simp [LosesTick, and_assoc]
  simp only [noTickLost, h, Bool.and_eq_true, Bool.not_eq_true', ← Bool.not_eq_true, ← hloses]

/-- R65 as an equation of timestamps. -/
theorem now_execList {l : List Instr} {s : State} (hl : noReset l) (hkept : noTickLost l s = true) :
    ∃ t : State, execList l s = .next t ∧ now t = now s + BitVec.ofNat 16 (l.count .tickIn) := by
  induction l generalizing s with
  | nil => exact ⟨s, rfl, (BitVec.add_zero _).symm⟩
  | cons i l ih =>
    obtain ⟨⟨hlegal, hreset⟩, hrest⟩ := List.forall_mem_cons.1 hl
    obtain ⟨u, hu⟩ := exec_next hlegal s
    obtain ⟨hfirst, hkept⟩ := (noTickLost_cons hu l).1 hkept
    obtain ⟨t, ht, hnow⟩ := ih hrest hkept
    refine ⟨t, (execList_cons_next hu l).trans ht, ?_⟩
    rw [hnow, now_exec hreset hfirst hu, BitVec.add_assoc, ← BitVec.ofNat_add, ← List.count_append,
      List.singleton_append]

/-- Settles O11: the equation of timestamps, read as numbers. -/
theorem timestampAdvancesByTheTicksCounted : Obligations.TimestampAdvancesByTheTicksCounted := by
  intro l s hl hkept
  obtain ⟨t, ht, hnow⟩ := now_execList hl hkept
  exact ⟨t, ht, by rw [hnow, BitVec.toNat_add, BitVec.toNat_ofNat, Nat.add_mod_mod]⟩

end Sys2Proof.Machine
end

section
/-! PROOFS. The Mailbox (spec 41_mailbox.md): what PUBLISH, PUB_STEP, TAKE_STEP and TRY_TAKE do (R69 to
R72), that every step keeps the sequence parity (R75), and that no interleaving of takes with up to 127
publishes returns a torn value (R74, R141). -/

namespace Sys2Proof.Machine

/-! ### PUBLISH (R69) -/

theorem exec_publish_of_idle {c : Ch} {s : State} (v : Word) (h : s.pubp.get c = .idle) :
    exec (.publish c v) s = .next (startPublish c v s) :=
  congrArg Host.Outcome.next (if_pos h)

theorem exec_publish_of_not_idle {c : Ch} {s : State} (v : Word) (h : s.pubp.get c ≠ .idle) :
    exec (.publish c v) s = .next s :=
  congrArg Host.Outcome.next (if_neg h)

/-- Settles O12: the enabling condition decides between the latch writes and no effect. -/
theorem publishLatchesTheValue : Obligations.PublishLatchesTheValue :=
  ⟨fun _ => spells_of_encode_eq rfl rfl, fun _ => spells_of_encode_eq rfl rfl, fun _ _ => rfl,
    fun _ v _ h => ⟨_, exec_publish_of_idle v h, rfl, rfl, rfl, fun _ => rfl⟩,
    fun _ v _ h => exec_publish_of_not_idle v h⟩

/-! ### PUB_STEP (R70) -/

theorem pubStepOp_of_idle {c : Ch} {s : State} (h : s.pubp.get c = .idle) : pubStepOp c s = s := by
  simp [pubStepOp, h]

/-- Settles O13, phase by phase. -/
theorem pubStepPerformsTheNextStep : Obligations.PubStepPerformsTheNextStep := by
  refine ⟨spells_of_encode_eq rfl rfl, spells_of_encode_eq rfl rfl, fun _ => rfl,
    fun _ _ hidle => congrArg Host.Outcome.next (pubStepOp_of_idle hidle), fun c s hbusy => ?_⟩
  refine ⟨pubStepOp c s, rfl, ?_⟩
  rcases pubStepOp_cases c s with ⟨hp, _⟩ | ⟨hp, e⟩ | ⟨hp, e⟩ | ⟨hp, e⟩ | ⟨hp, e⟩ | ⟨hp, e⟩
  case inl => exact absurd hp hbusy
  all_goals rw [e]; simp [hp, NvmReadsSame, BitVec.toNat_add]

/-! ### TAKE_STEP (R71) -/

/-- Settles O14, by what a take step can do; T1 reads the parity of the sequence number as a number. -/
theorem takeStepPerformsTheNextStep : Obligations.TakeStepPerformsTheNextStep := by
  refine ⟨spells_of_encode_eq rfl rfl, spells_of_encode_eq rfl rfl, fun _ => rfl, fun c s => ?_⟩
  refine ⟨takeStepOp c s, rfl, ?_⟩
  rcases takeStepOp_cases c s with ⟨hp, hodd, e⟩ | ⟨hp, heven, e⟩ | ⟨hp, e⟩ | ⟨hp, e⟩ | ⟨hp, e⟩ |
    ⟨hp, ⟨hne, hseq⟩, e⟩ | ⟨hp, hreject, e⟩ | ⟨hp, e⟩ <;> rw [e]
  · rw [seqOdd_eq_true_iff] at hodd
    simp [hp, hodd, NvmReadsSame]
  · rw [seqOdd_eq_false_iff] at heven
    simp [hp, heven, NvmReadsSame]
  · simp [hp, NvmReadsSame]
  · simp [hp, NvmReadsSame]
  · simp [hp, NvmReadsSame]
  · simp [hp, hne, hseq, NvmReadsSame]
  · have hchanged : s.tkne.get c = true → s.mbSeq.get c ≠ s.tks1.get c :=
      fun hne hseq => hreject ⟨hne, hseq⟩
    simp +contextual [hp, hchanged, NvmReadsSame]
  · simp [hp, NvmReadsSame]

/-! ### TRY_TAKE (R72) -/

theorem exec_tryTake_of_idle {c : Ch} {s : State} (h : s.tkp.get c = .idle) :
    exec (.tryTake c) s = .next (takeUntilIdle 6 c s) :=
  congrArg Host.Outcome.next (if_pos h)

theorem exec_tryTake_of_not_idle {c : Ch} {s : State} (h : s.tkp.get c ≠ .idle) :
    exec (.tryTake c) s = .next s :=
  congrArg Host.Outcome.next (if_neg h)

/-- A step that ends the take is the last. -/
theorem takeUntilIdle_of_ends {c : Ch} {s t : State} (n : Nat) (hstep : takeStepOp c s = t)
    (h : t.tkp.get c = .idle) : takeUntilIdle (n + 1) c s = t := by
  simp [takeUntilIdle, hstep, h]

/-- A step after which the take is still in progress is followed by the others. -/
theorem takeUntilIdle_of_goes_on {c : Ch} {s t : State} (n : Nat) (hstep : takeStepOp c s = t)
    (h : t.tkp.get c ≠ .idle) : takeUntilIdle (n + 1) c s = takeUntilIdle n c t := by
  simp [takeUntilIdle, hstep, h]

/-- A take that has read all it compares: T1 to T4 with nothing between them. -/
def takeRead (c : Ch) (s : State) : State :=
  { s with tks1 := s.tks1.set c (s.mbSeq.get c), tkv := s.tkv.set c (s.mbVal.get c)
           tkne := s.tkne.set c (s.mbNe.get c), tkp := s.tkp.set c .t5 }

/-- The two byte reads T2 and T3, with nothing between them, read the whole value. -/
theorem setHighByte_setLowByte (u v : Word) :
    setHighByte (setLowByte u (lowByte v)) (highByte v) = v :=
  eq_of_bytes (by simp) (by simp)

theorem takeUntilIdle_takeRead {c : Ch} {s : State} (n : Nat) (hidle : s.tkp.get c = .idle)
    (heven : seqOdd (s.mbSeq.get c) = false) :
    takeUntilIdle (n + 4) c s = takeUntilIdle n c (takeRead c s) := by
  have h1 : takeStepOp c s =
      { s with tks1 := s.tks1.set c (s.mbSeq.get c), tkp := s.tkp.set c .t2 } := by
    simp [takeStepOp, hidle, heven]
  rw [takeUntilIdle_of_goes_on _ h1 (by simp), takeUntilIdle_of_goes_on _ rfl (by simp [takeStepOp]),
    takeUntilIdle_of_goes_on _ rfl (by simp [takeStepOp]),
    takeUntilIdle_of_goes_on _ rfl (by simp [takeStepOp])]
  simp [takeStepOp, takeRead, setHighByte_setLowByte]

/-- Settles O15: the first step rejects, or the reads follow and the fifth step rejects or accepts. -/
theorem tryTakeIsAWholeTake : Obligations.TryTakeIsAWholeTake := by
  refine ⟨spells_of_encode_eq rfl rfl, spells_of_encode_eq rfl rfl, fun _ => rfl,
    fun _ _ hbusy => exec_tryTake_of_not_idle hbusy, fun c s hidle => ?_⟩
  have hphase : s.tkp.set c .idle = s.tkp := by rw [← hidle, Chan_set_get]
  rw [exec_tryTake_of_idle hidle, ← seqOdd_eq_true_iff, ← seqOdd_eq_false_iff]
  refine ⟨fun hodd => ?_, fun heven hempty => ?_, fun heven hfull => ?_⟩
  · exact congrArg Host.Outcome.next
      (takeUntilIdle_of_ends _ (by simp [takeStepOp, hidle, hodd]) hidle)
  · rw [takeUntilIdle_takeRead 2 hidle heven,
      takeUntilIdle_of_ends _ rfl (by simp [takeStepOp, takeRead, hempty])]
    simp [takeStepOp, takeRead, hempty, hphase]
  · rw [takeUntilIdle_takeRead 2 hidle heven,
      takeUntilIdle_of_goes_on _ rfl (by simp [takeStepOp, takeRead, hfull]),
      takeUntilIdle_of_ends _ rfl (by simp [takeStepOp, takeRead, hfull])]
    simp [takeStepOp, takeRead, hfull, hphase]

/-! ### The sequence parity (R75) -/

/-- R70: a publish step touches no other channel. -/
theorem pubStepOp_other (s : State) {c d : Ch} (h : d ≠ c) :
    (pubStepOp c s).mbSeq.get d = s.mbSeq.get d ∧ (pubStepOp c s).pubp.get d = s.pubp.get d := by
  rcases pubStepOp_cases c s with ⟨_, e⟩ | ⟨_, e⟩ | ⟨_, e⟩ | ⟨_, e⟩ | ⟨_, e⟩ | ⟨_, e⟩ <;> rw [e] <;>
    simp [Chan_get_set_of_ne, h]

/-- The steps that flip the parity, P1 and P5, are those that enter and leave the middle of a publish. -/
theorem pubStepOp_seqParity (c : Ch) {s : State} (hs : SeqParity s) : SeqParity (pubStepOp c s) := by
  intro d
  by_cases hd : d = c
  · subst hd
    have hd := hs d
    rcases pubStepOp_cases d s with ⟨hp, e⟩ | ⟨hp, e⟩ | ⟨hp, e⟩ | ⟨hp, e⟩ | ⟨hp, e⟩ | ⟨hp, e⟩ <;>
      rw [hp] at hd <;> rw [e] <;> simp [hp, hd, midPublish]
  · obtain ⟨hseq, hpub⟩ := pubStepOp_other s hd
    rw [hseq, hpub, hs d]

/-- A publish starts where none is in flight, and its first increment is still to come. -/
theorem startPublish_seqParity {c : Ch} {s : State} (v : Word) (hs : SeqParity s)
    (hidle : s.pubp.get c = .idle) : SeqParity (startPublish c v s) := by
  intro d
  by_cases hd : d = c
  · subst hd
    simpa [startPublish, hidle, midPublish] using hs d
  · simpa [startPublish, Chan_get_set_of_ne, hd] using hs d

/-- R122: CAPTURE starts publishes only where none is in flight on either channel. -/
theorem captureBody_seqParity {s : State} (hs : SeqParity s) (hidle : intActive s = false) :
    SeqParity (captureBody s) := by
  intro d
  obtain ⟨_, _, _, _, hpub⟩ := captureBody_get s d
  have hseq : (captureBody s).mbSeq = s.mbSeq := (congrArg State.mbSeq (captureBody_frame s) :)
  have hd : s.pubp.get d = .idle := by
    obtain ⟨h0, h1⟩ := (intActive_eq_false_iff s).1 hidle
    cases d
    · exact h0
    · exact h1
  rw [hseq, hs d, hpub, hd]
  split <;> rfl

/-- R34: only RESET and the operations of IRQ write the sequence number or the publish phase. -/
theorem seqParity_exec {i : Instr} {s t : State} (hs : SeqParity s) (h : exec i s = .next t) :
    SeqParity t := by
  cases ha : agent i with
  | hw => exact (congrArg SeqParity (exec_hw_frame h ha) :).mpr hs
  | env =>
    by_cases hreset : i = .reset
    · subst hreset
      exact (congrArg SeqParity (exec_reset_frame h) :).mpr seqParity_reset
    · exact (congrArg SeqParity (exec_env_frame hreset h ha) :).mpr hs
  | main =>
    by_cases hstart : i = .outStart
    · subst hstart
      exact (congrArg SeqParity (exec_outStart_frame h) :).mpr hs
    · exact (congrArg SeqParity (exec_main_frame h ha hstart) :).mpr hs
  | irq =>
    cases i with
    | ovf0Svc => exact (congrArg SeqParity (exec_ovf0Svc_frame h) :).mpr hs
    | capture =>
      cases h
      refine takeInterrupt_induct _ _ hs fun helig => ?_
      obtain ⟨_, _, _, hidle⟩ := (eligible_iff s .pinChange).1 helig
      exact captureBody_seqParity (s := clearPending s .pinChange) hs hidle
    | ovf1Svc => exact (congrArg SeqParity (exec_ovf1Svc_frame h) :).mpr hs
    | cmp1Svc => exact (congrArg SeqParity (exec_cmp1Svc_frame h) :).mpr hs
    | pubStep c => cases h; exact pubStepOp_seqParity c hs
    | publish c v =>
      by_cases hidle : s.pubp.get c = .idle
      · cases (exec_publish_of_idle v hidle).symm.trans h
        exact startPublish_seqParity v hs hidle
      · cases (exec_publish_of_not_idle v hidle).symm.trans h
        exact hs
    | _ => simp [agent] at ha

/-- Settles O18: the invariant reads no byte of the stream, and every operation keeps it. -/
theorem stepKeepsSequenceParity : Obligations.StepKeepsSequenceParity := by
  intro s t hs h
  obtain ⟨i, rest, _, hexec⟩ := exists_exec_of_step h
  exact seqParity_exec (s := { s with stream := rest }) hs hexec

/-! ### No torn value (R74, R141)

A take compares the sequence number at T5 with the one it read at T1. Equal numbers mean that no increment
lies between, because 127 publishes make at most 254 increments and so come round to no earlier number
(`SeqBudget`); then the number is even, no publish was between its increments (R75), and none has written a
byte of the slot since T1 (`pubStepOp_of_seq_eq`). -/

/-- The slot and the latch hold whole values, all of them among `P`; what a publish has written of the slot
so far is its latch's. -/
structure SlotWhole (P : Word → Prop) (c : Ch) (s : State) : Prop where
  latch : s.pubp.get c ≠ .idle → P (s.pubv.get c)
  slot : midPublish (s.pubp.get c) = false → P (s.mbVal.get c)
  low_written : s.pubp.get c = .p3 → lowByte (s.mbVal.get c) = lowByte (s.pubv.get c)
  both_written : s.pubp.get c = .p4 ∨ s.pubp.get c = .p5 → s.mbVal.get c = s.pubv.get c

/-- As long as the sequence number is the one read at T1, what a take has read is the slot's; what it has
accepted, and what it last returned, is among `P`. -/
structure TakeWhole (P : Word → Prop) (c : Ch) (s : State) : Prop where
  begun_even : s.tkp.get c ≠ .idle → seqOdd (s.tks1.get c) = false
  low_read : s.tkp.get c = .t3 → s.mbSeq.get c = s.tks1.get c →
    lowByte (s.tkv.get c) = lowByte (s.mbVal.get c)
  both_read : s.tkp.get c = .t4 ∨ s.tkp.get c = .t5 → s.mbSeq.get c = s.tks1.get c →
    s.tkv.get c = s.mbVal.get c
  accepted : s.tkp.get c = .t6 → P (s.tkv.get c)
  returned : P (s.chv.get c)

/-- The increments of the sequence number that a publish in this phase has still to make. -/
def incrementsLeft : PubPhase → Nat
  | .idle => 0
  | .p1 => 2
  | .p2 => 1
  | .p3 => 1
  | .p4 => 1
  | .p5 => 1

/-- The increments since T1 of the take in progress, modulo 256. -/
def incrementsSeen (c : Ch) (s : State) : Nat :=
  if s.tkp.get c = .idle then 0 else (s.mbSeq.get c - s.tks1.get c).toNat

/-- The increments of a take's time do not come round: those made since T1 and those that `n` more publishes
and the one in flight can make are fewer than 255. -/
def SeqBudget (n : Nat) (c : Ch) (s : State) : Prop :=
  incrementsSeen c s + incrementsLeft (s.pubp.get c) + 2 * n ≤ 254

/-- The inductive invariant of the channel, with `n` publishes still to come. -/
structure MailboxInv (P : Word → Prop) (n : Nat) (c : Ch) (s : State) : Prop where
  parity : SeqParity s
  slot : SlotWhole P c s
  take : TakeWhole P c s
  budget : SeqBudget n c s

/-! ### No torn value: the start of a publish -/

theorem startPublish_slotWhole {P : Word → Prop} {c : Ch} {s : State} {v : Word}
    (hs : SlotWhole P c s) (hidle : s.pubp.get c = .idle) (hv : P v) :
    SlotWhole P c (startPublish c v s) where
  latch _ := by simpa [startPublish] using hv
  slot _ := hs.slot (by rw [hidle]; rfl)
  low_written h := by simp [startPublish] at h
  both_written h := by simp [startPublish] at h

theorem startPublish_seqBudget {n : Nat} {c : Ch} {s : State} (v : Word)
    (hs : SeqBudget (n + 1) c s) (hidle : s.pubp.get c = .idle) :
    SeqBudget n c (startPublish c v s) := by
  have hseen : incrementsSeen c (startPublish c v s) = incrementsSeen c s := rfl
  have hleft : incrementsLeft (s.pubp.get c) = 0 := by rw [hidle]; rfl
  have hleft' : incrementsLeft ((startPublish c v s).pubp.get c) = 2 := by
    simp [startPublish, incrementsLeft]
  unfold SeqBudget at *
  omega

theorem SeqBudget.mono {m n : Nat} {c : Ch} {s : State} (h : SeqBudget n c s) (hmn : m ≤ n) :
    SeqBudget m c s := by
  unfold SeqBudget at *
  omega

/-- A PUBLISH uses up one of the publishes still to come, whether it is enabled or not. -/
theorem mailboxInv_exec_publish {P : Word → Prop} {n : Nat} {c : Ch} {s t : State} {v : Word}
    (hs : MailboxInv P (n + 1) c s) (hv : P v) (h : exec (.publish c v) s = .next t) :
    MailboxInv P n c t := by
  have hparity := seqParity_exec hs.parity h
  by_cases hidle : s.pubp.get c = .idle
  · cases (exec_publish_of_idle v hidle).symm.trans h
    have htake : TakeWhole P c (startPublish c v s) := { hs.take with }
    exact ⟨hparity, startPublish_slotWhole hs.slot hidle hv, htake,
      startPublish_seqBudget v hs.budget hidle⟩
  · cases (exec_publish_of_not_idle v hidle).symm.trans h
    exact ⟨hparity, hs.slot, hs.take, hs.budget.mono (Nat.le_succ n)⟩

/-! ### No torn value: the steps of a publish -/

theorem pubStepOp_slotWhole {P : Word → Prop} {c : Ch} {s : State} (hs : SlotWhole P c s) :
    SlotWhole P c (pubStepOp c s) := by
  rcases pubStepOp_cases c s with ⟨hp, e⟩ | ⟨hp, e⟩ | ⟨hp, e⟩ | ⟨hp, e⟩ | ⟨hp, e⟩ | ⟨hp, e⟩ <;> rw [e]
  case inl => exact hs
  all_goals
    have hlatch : P (s.pubv.get c) := hs.latch (by simp [hp])
  · constructor <;> simp [midPublish, hlatch]
  · constructor <;> simp [midPublish, hlatch]
  · have hwhole : setHighByte (s.mbVal.get c) (highByte (s.pubv.get c)) = s.pubv.get c :=
      eq_of_bytes (by simpa using hs.low_written hp) (by simp)
    constructor <;> simp [midPublish, hlatch, hwhole]
  · have hwhole := hs.both_written (.inl hp)
    constructor <;> simp [midPublish, hlatch, hwhole]
  · have hwhole := hs.both_written (.inr hp)
    constructor <;> simp [hlatch, hwhole]

/-- An increment is seen by a take in progress, and is no longer to come. -/
theorem incrementsSeen_add_one {c : Ch} {s t : State} (hseq : t.mbSeq.get c = s.mbSeq.get c + 1#8)
    (htkp : t.tkp = s.tkp) (htks : t.tks1 = s.tks1) : incrementsSeen c t ≤ incrementsSeen c s + 1 := by
  unfold incrementsSeen
  rw [hseq, htkp, htks]
  split
  · omega
  · bv_omega

/-- R70: a step either increments the sequence number, one increment fewer being left, or leaves it; and
only in the middle of a publish does it write the slot. -/
theorem pubStepOp_seq_cases (c : Ch) (s : State) :
    ((pubStepOp c s).mbSeq.get c = s.mbSeq.get c + 1#8 ∧
      incrementsLeft ((pubStepOp c s).pubp.get c) + 1 = incrementsLeft (s.pubp.get c)) ∨
    ((pubStepOp c s).mbSeq = s.mbSeq ∧
      incrementsLeft ((pubStepOp c s).pubp.get c) = incrementsLeft (s.pubp.get c) ∧
      ((pubStepOp c s).mbVal = s.mbVal ∨ midPublish (s.pubp.get c) = true)) := by
  rcases pubStepOp_cases c s with ⟨hp, e⟩ | ⟨hp, e⟩ | ⟨hp, e⟩ | ⟨hp, e⟩ | ⟨hp, e⟩ | ⟨hp, e⟩ <;> rw [e] <;>
    simp [hp, incrementsLeft, midPublish]

theorem pubStepOp_seqBudget {n : Nat} {c : Ch} {s : State} (hs : SeqBudget n c s) :
    SeqBudget n c (pubStepOp c s) := by
  have htkp : (pubStepOp c s).tkp = s.tkp := (congrArg State.tkp (pubStepOp_frame c s) :)
  have htks : (pubStepOp c s).tks1 = s.tks1 := (congrArg State.tks1 (pubStepOp_frame c s) :)
  unfold SeqBudget at *
  rcases pubStepOp_seq_cases c s with ⟨hseq, hleft⟩ | ⟨hseq, hleft, _⟩
  · have hseen := incrementsSeen_add_one hseq htkp htks
    omega
  · have hseen : incrementsSeen c (pubStepOp c s) = incrementsSeen c s := by
      simp only [incrementsSeen, hseq, htkp, htks]
    omega

/-- A publish step after which the sequence number is the one a take has read was no increment and wrote
no byte of the slot. -/
theorem pubStepOp_of_seq_eq {P : Word → Prop} {n : Nat} {c : Ch} {s : State} (hs : MailboxInv P n c s)
    (htaking : s.tkp.get c ≠ .idle) (heq : (pubStepOp c s).mbSeq.get c = s.tks1.get c) :
    s.mbSeq.get c = s.tks1.get c ∧ (pubStepOp c s).mbVal = s.mbVal := by
  rcases pubStepOp_seq_cases c s with ⟨hseq, hleft⟩ | ⟨hseq, _, hval⟩
  · exfalso
    have hbudget := hs.budget
    rw [hseq] at heq
    rw [SeqBudget, incrementsSeen, if_neg htaking, ← heq] at hbudget
    bv_omega
  · rw [hseq] at heq
    refine ⟨heq, hval.resolve_right fun hmid => ?_⟩
    have hodd := hs.parity c
    rw [heq, hs.take.begun_even htaking, hmid] at hodd
    exact Bool.false_ne_true hodd

theorem pubStepOp_takeWhole {P : Word → Prop} {n : Nat} {c : Ch} {s : State} (hs : MailboxInv P n c s) :
    TakeWhole P c (pubStepOp c s) := by
  have htake := hs.take
  have hkept := pubStepOp_of_seq_eq hs
  rw [pubStepOp_frame]
  constructor
  case begun_even => exact htake.begun_even
  case accepted => exact htake.accepted
  case returned => exact htake.returned
  case low_read =>
    intro (hphase : s.tkp.get c = .t3) heq
    obtain ⟨heq, hval⟩ := hkept (by simp [hphase]) heq
    simpa [hval] using htake.low_read hphase heq
  case both_read =>
    intro (hphase : s.tkp.get c = .t4 ∨ s.tkp.get c = .t5) heq
    obtain ⟨heq, hval⟩ := hkept (by rcases hphase with h | h <;> simp [h]) heq
    simpa [hval] using htake.both_read hphase heq

theorem mailboxInv_pubStepOp {P : Word → Prop} {n : Nat} {c : Ch} {s : State}
    (hs : MailboxInv P n c s) : MailboxInv P n c (pubStepOp c s) :=
  ⟨pubStepOp_seqParity c hs.parity, pubStepOp_slotWhole hs.slot, pubStepOp_takeWhole hs,
    pubStepOp_seqBudget hs.budget⟩

/-! ### No torn value: the steps of a take -/

/-- T1 counts the increments from there; no other step of a take counts any. -/
theorem takeStepOp_incrementsSeen_le (c : Ch) (s : State) :
    incrementsSeen c (takeStepOp c s) ≤ incrementsSeen c s := by
  unfold incrementsSeen
  rcases takeStepOp_cases c s with ⟨hp, _, e⟩ | ⟨hp, _, e⟩ | ⟨hp, e⟩ | ⟨hp, e⟩ | ⟨hp, e⟩ | ⟨hp, _, e⟩ |
    ⟨hp, _, e⟩ | ⟨hp, e⟩ <;> rw [e] <;> simp [hp]

theorem takeStepOp_seqBudget {n : Nat} {c : Ch} {s : State} (hs : SeqBudget n c s) :
    SeqBudget n c (takeStepOp c s) := by
  have hseen := takeStepOp_incrementsSeen_le c s
  have hpub : (takeStepOp c s).pubp = s.pubp := (congrArg State.pubp (takeStepOp_frame c s) :)
  unfold SeqBudget at *
  rw [hpub]
  omega

/-- At T5 an unchanged sequence number is even, so that the slot holds a whole value (R75). -/
theorem slot_of_seq_eq {P : Word → Prop} {n : Nat} {c : Ch} {s : State} (hs : MailboxInv P n c s)
    (htaking : s.tkp.get c ≠ .idle) (heq : s.mbSeq.get c = s.tks1.get c) : P (s.mbVal.get c) := by
  apply hs.slot.slot
  rw [← hs.parity c, heq, hs.take.begun_even htaking]

theorem takeStepOp_takeWhole {P : Word → Prop} {n : Nat} {c : Ch} {s : State} (hs : MailboxInv P n c s) :
    TakeWhole P c (takeStepOp c s) := by
  have hreturned := hs.take.returned
  have heven := hs.take.begun_even
  rcases takeStepOp_cases c s with ⟨hp, _, e⟩ | ⟨hp, hstart, e⟩ | ⟨hp, e⟩ | ⟨hp, e⟩ | ⟨hp, e⟩ |
    ⟨hp, ⟨_, hseq⟩, e⟩ | ⟨hp, _, e⟩ | ⟨hp, e⟩ <;> rw [e] <;> rw [hp] at heven
  · constructor <;> simp [hp, hreturned]
  · constructor <;> simp [hstart, hreturned]
  · constructor <;> simp [heven, hreturned]
  · have hboth : s.mbSeq.get c = s.tks1.get c →
        setHighByte (s.tkv.get c) (highByte (s.mbVal.get c)) = s.mbVal.get c := fun heq =>
      eq_of_bytes (by simpa using hs.take.low_read hp heq) (by simp)
    constructor <;> simp +contextual [heven, hboth, hreturned]
  · have hboth := hs.take.both_read (.inl hp)
    constructor <;> simp +contextual [heven, hboth, hreturned]
  · have hvalue : P (s.tkv.get c) := by
      rw [hs.take.both_read (.inr hp) hseq]
      exact slot_of_seq_eq hs (by simp [hp]) hseq
    constructor <;> simp [heven, hvalue, hreturned]
  · constructor <;> simp [hreturned]
  · have hvalue := hs.take.accepted hp
    constructor <;> simp [hvalue]

theorem mailboxInv_takeStepOp {P : Word → Prop} {n : Nat} {c : Ch} {s : State}
    (hs : MailboxInv P n c s) : MailboxInv P n c (takeStepOp c s) where
  parity := (congrArg SeqParity (takeStepOp_frame c s) :).mpr hs.parity
  slot := by rw [takeStepOp_frame]; exact { hs.slot with }
  take := takeStepOp_takeWhole hs
  budget := takeStepOp_seqBudget hs.budget

/-! ### No torn value: lists of operations -/

theorem mailboxInv_exec {P : Word → Prop} {c : Ch} {i : Instr} {l : List Instr} {s : State}
    (hs : MailboxInv P ((i :: l).countP (isPublishOn c)) c s) (hi : isMailboxStep c i = true)
    (hP : ∀ v : Word, i = .publish c v → P v) :
    ∃ t : State, exec i s = .next t ∧ MailboxInv P (l.countP (isPublishOn c)) c t := by
  cases i with
  | publish c' v =>
    obtain rfl : c' = c := by simpa [isMailboxStep] using hi
    rw [List.countP_cons_of_pos (by simp [isPublishOn])] at hs
    exact ⟨_, rfl, mailboxInv_exec_publish hs (hP v rfl) rfl⟩
  | pubStep c' =>
    obtain rfl : c' = c := by simpa [isMailboxStep] using hi
    rw [List.countP_cons_of_neg (by simp [isPublishOn])] at hs
    exact ⟨_, rfl, mailboxInv_pubStepOp hs⟩
  | takeStep c' =>
    obtain rfl : c' = c := by simpa [isMailboxStep] using hi
    rw [List.countP_cons_of_neg (by simp [isPublishOn])] at hs
    exact ⟨_, rfl, mailboxInv_takeStepOp hs⟩
  | _ => simp [isMailboxStep] at hi

theorem mailboxInv_execList {P : Word → Prop} {c : Ch} {l : List Instr} {s : State}
    (hs : MailboxInv P (l.countP (isPublishOn c)) c s) (hl : ∀ i ∈ l, isMailboxStep c i = true)
    (hP : ∀ v : Word, .publish c v ∈ l → P v) :
    ∃ t : State, execList l s = .next t ∧ MailboxInv P 0 c t := by
  induction l generalizing s with
  | nil => exact ⟨s, rfl, hs⟩
  | cons i l ih =>
    obtain ⟨hi, hrest⟩ := List.forall_mem_cons.1 hl
    obtain ⟨u, hu, hinv⟩ := mailboxInv_exec hs hi fun v hv => hP v (hv ▸ List.mem_cons_self)
    obtain ⟨t, ht, hend⟩ := ih hinv hrest fun v hv => hP v (List.mem_cons_of_mem i hv)
    exact ⟨t, (execList_cons_next hu l).trans ht, hend⟩

/-- With no publish and no take in progress, the channel holds whole values: its slot's and the one last
returned. -/
theorem mailboxInv_of_idle {P : Word → Prop} {n : Nat} {c : Ch} {s : State} (hs : SeqParity s)
    (hpub : s.pubp.get c = .idle) (htake : s.tkp.get c = .idle) (hn : n ≤ 127)
    (hslot : P (s.mbVal.get c)) (hreturned : P (s.chv.get c)) : MailboxInv P n c s where
  parity := hs
  slot := by constructor <;> simp [hpub, hslot]
  take := by constructor <;> simp [htake, hreturned]
  budget := by
    simp only [SeqBudget, incrementsSeen, htake, hpub, incrementsLeft, if_true]
    omega

/-- Settles O16: the invariant with the three kinds of values that a take may return. -/
theorem takesNeverReturnATornValue : Obligations.TakesNeverReturnATornValue := by
  intro c s l hs hpub htake hl hn
  obtain ⟨t, ht, hinv⟩ := mailboxInv_execList
    (P := fun v => v = s.chv.get c ∨ v = s.mbVal.get c ∨ .publish c v ∈ l)
    (mailboxInv_of_idle hs hpub htake hn (.inr (.inl rfl)) (.inl rfl)) hl (fun _ hv => .inr (.inr hv))
  exact ⟨t, ht, hinv.take.returned⟩

end Sys2Proof.Machine
end

section
/-! PROOFS. Input Capture (spec 42_input_capture.md): what PIN and CAPTURE do (R76, R77), that every step
keeps `OPEN = PREV` (R78), and that a captured width counts the ticks between its two edges (R80). -/

namespace Sys2Proof.Machine

/-! ### PIN (R76) -/

theorem pinsChanged_eq_decide (old new : BitVec 2) : pinsChanged old new = decide (new ≠ old) := by
  rw [pinsChanged, bne_comm, bne, Bool.beq_eq_decide_eq, decide_not]

theorem levelsByte_eq_ofNat (lv : BitVec 2) : levelsByte lv = BitVec.ofNat 8 lv.toNat := by
  simp [levelsByte]

/-- Settles O19: PIN has no enabling condition, and its operand byte is the level pair. -/
theorem pinDrivesTheLevels : Obligations.PinDrivesTheLevels := by
  refine ⟨fun lv => spells_of_encode_eq rfl ?_, fun _ => rfl,
    fun lv s => ⟨_, rfl, rfl, ?_, rfl, fun _ => rfl⟩⟩
  · exact congrArg (fun b => [0x20#8, b]) (levelsByte_eq_ofNat lv)
  · exact congrArg (s.pcf || ·) (pinsChanged_eq_decide s.pins lv)

/-! ### The three cases of CAPTURE's loop (R77) -/

theorem exec_capture_of_eligible {s : State} (h : eligible s .pinChange = true) :
    exec .capture s = .next (captureBody (clearPending s .pinChange)) :=
  congrArg Host.Outcome.next (takeInterrupt_of_eligible _ h)

theorem exec_capture_of_not_eligible {s : State} (h : eligible s .pinChange = false) :
    exec .capture s = .next s :=
  congrArg Host.Outcome.next (takeInterrupt_of_not_eligible _ h)

/-- The rising edge: the pulse opens at the timestamp. -/
theorem captureBody_of_rise {c : Ch} {s : State} (hprev : s.prev.get c = false)
    (hlevel : level s.pins c = true) :
    (captureBody s).ref.get c = now s ∧ (captureBody s).pulseOpen.get c = true ∧
      (captureBody s).pubv.get c = s.pubv.get c ∧ (captureBody s).pubp.get c = s.pubp.get c := by
  obtain ⟨_, href, hopen, hpubv, hpubp⟩ := captureBody_get s c
  simp [href, hopen, hpubv, hpubp, hprev, hlevel]

/-- The falling edge of an open pulse: its width is published and it closes. -/
theorem captureBody_of_fall {c : Ch} {s : State} (hprev : s.prev.get c = true)
    (hlevel : level s.pins c = false) (hopened : s.pulseOpen.get c = true) :
    (captureBody s).pubv.get c = now s - s.ref.get c ∧ (captureBody s).pubp.get c = .p1 ∧
      (captureBody s).pulseOpen.get c = false ∧ (captureBody s).ref.get c = s.ref.get c := by
  obtain ⟨_, href, hopen, hpubv, hpubp⟩ := captureBody_get s c
  simp [href, hopen, hpubv, hpubp, hprev, hlevel, hopened]

/-- No edge, or the falling edge of no open pulse: the level memory alone is written. -/
theorem captureBody_of_no_edge {c : Ch} {s : State}
    (h : s.prev.get c = level s.pins c ∨
      (s.prev.get c = true ∧ level s.pins c = false ∧ s.pulseOpen.get c = false)) :
    (captureBody s).ref.get c = s.ref.get c ∧ (captureBody s).pulseOpen.get c = s.pulseOpen.get c ∧
      (captureBody s).pubv.get c = s.pubv.get c ∧ (captureBody s).pubp.get c = s.pubp.get c := by
  obtain ⟨_, href, hopen, hpubv, hpubp⟩ := captureBody_get s c
  rcases h with hsame | ⟨hprev, hlevel, hclosed⟩
  · cases hlevel : level s.pins c <;> simp [href, hopen, hpubv, hpubp, hsame, hlevel]
  · simp [href, hopen, hpubv, hpubp, hprev, hlevel, hclosed]

/-- R33: no publish is in flight on either channel. -/
theorem pubp_eq_idle_of_intActive {s : State} (h : intActive s = false) (c : Ch) :
    s.pubp.get c = .idle := by
  obtain ⟨h0, h1⟩ := (intActive_eq_false_iff s).1 h
  cases c with
  | ch0 => exact h0
  | ch1 => exact h1

/-- R9: the wrapping difference of two timestamps, as a number. -/
theorem toNat_width (t ref : Word) : (t - ref).toNat = (t.toNat + 65536 - ref.toNat) % 65536 := by
  bv_omega

/-- Settles O20, edge by edge on the state whose pending flag is cleared. -/
theorem captureProcessesTheEdges : Obligations.CaptureProcessesTheEdges := by
  refine ⟨spells_of_encode_eq rfl rfl, rfl, ?_, ?_⟩
  · intro s hie hpcie hpcf hidle
    have hexec := exec_capture_of_eligible ((eligible_iff s .pinChange).2 ⟨hie, hpcie, hpcf, hidle⟩)
    have hpubp := pubp_eq_idle_of_intActive hidle
    have hframe := exec_capture_frame hexec
    refine ⟨_, hexec, ?_, ?_, ?_, ?_, ?_, hframe, ?_⟩
    · exact (congrArg State.pcf (captureBody_frame (clearPending s .pinChange)) :)
    · intro c
      obtain ⟨hprev, _⟩ := captureBody_get (clearPending s .pinChange) c
      exact hprev
    · intro c hprev hlevel
      rw [← hpubp c]
      exact captureBody_of_rise (s := clearPending s .pinChange) hprev hlevel
    · intro c hprev hlevel hopened
      rw [← toNat_width]
      obtain ⟨hwidth, hstarted⟩ :=
        captureBody_of_fall (s := clearPending s .pinChange) hprev hlevel hopened
      exact ⟨congrArg BitVec.toNat hwidth, hstarted⟩
    · intro c hnone
      rw [← hpubp c]
      exact captureBody_of_no_edge (s := clearPending s .pinChange) hnone
    · exact fun a => (congrArg (fun u => nvmRead u.nvm a) hframe :)
  · intro s hdisabled
    exact exec_capture_of_not_eligible ((not_eligible_iff s .pinChange).2 hdisabled)

/-! ### The edge registers (R16) -/

/-- The level memory, the open pulses and their references. -/
def edgeRegisters (s : State) : Chan Bool × Chan Bool × Chan Word := (s.prev, s.pulseOpen, s.ref)

theorem edgeRegisters_eq_iff {s t : State} :
    edgeRegisters t = edgeRegisters s ↔ t.prev = s.prev ∧ t.pulseOpen = s.pulseOpen ∧ t.ref = s.ref := by
  simp [edgeRegisters]

/-- R34: only RESET and CAPTURE write them. -/
theorem exec_edgeRegisters {i : Instr} {s t : State} (hreset : i ≠ .reset) (hcapture : i ≠ .capture)
    (h : exec i s = .next t) : edgeRegisters t = edgeRegisters s := by
  cases ha : agent i with
  | hw => exact (congrArg edgeRegisters (exec_hw_frame h ha) :)
  | env => exact (congrArg edgeRegisters (exec_env_frame hreset h ha) :)
  | main =>
    by_cases hstart : i = .outStart
    · subst hstart
      exact (congrArg edgeRegisters (exec_outStart_frame h) :)
    · exact (congrArg edgeRegisters (exec_main_frame h ha hstart) :)
  | irq =>
    cases i with
    | capture => exact absurd rfl hcapture
    | ovf0Svc => exact (congrArg edgeRegisters (exec_ovf0Svc_frame h) :)
    | ovf1Svc => exact (congrArg edgeRegisters (exec_ovf1Svc_frame h) :)
    | cmp1Svc => exact (congrArg edgeRegisters (exec_cmp1Svc_frame h) :)
    | pubStep c => exact (congrArg edgeRegisters (exec_pubStep_frame c h) :)
    | publish c v => exact (congrArg edgeRegisters (exec_publish_frame c v h) :)
    | _ => simp [agent] at ha

/-! ### OPEN = PREV (R78) -/

/-- R78: a rising edge sets both, a falling edge clears both, and no edge leaves both. -/
theorem captureBody_openIsPrev {s : State} (hs : OpenIsPrev s) : OpenIsPrev (captureBody s) := by
  refine Chan_ext fun c => ?_
  have hopened : s.pulseOpen.get c = s.prev.get c := congrArg (·.get c) hs
  obtain ⟨hprev, _, hopen, _⟩ := captureBody_get s c
  rw [hprev, hopen, hopened]
  cases s.prev.get c <;> cases level s.pins c <;> rfl

theorem openIsPrev_exec {i : Instr} {s t : State} (hs : OpenIsPrev s) (h : exec i s = .next t) :
    OpenIsPrev t := by
  by_cases hreset : i = .reset
  · subst hreset
    exact (congrArg OpenIsPrev (exec_reset_frame h) :).mpr rfl
  by_cases hcapture : i = .capture
  · subst hcapture
    cases h
    exact takeInterrupt_induct _ _ hs fun _ =>
      captureBody_openIsPrev (s := clearPending s .pinChange) hs
  · obtain ⟨hprev, hopen, _⟩ := edgeRegisters_eq_iff.1 (exec_edgeRegisters hreset hcapture h)
    exact hopen.trans (hs.trans hprev.symm)

/-- Settles O22: the invariant reads no byte of the stream, and every operation keeps it. -/
theorem stepKeepsOpenEqualToPrev : Obligations.StepKeepsOpenEqualToPrev := by
  intro s t hs h
  obtain ⟨i, rest, _, hexec⟩ := exists_exec_of_step h
  exact openIsPrev_exec (s := { s with stream := rest }) hs hexec

/-! ### The width of a pulse (R80) -/

/-- A pulse is open on channel `c` since the timestamp `r`: the handler saw the pin rise then, and has not
seen it fall. -/
structure OpenSince (r : Word) (c : Ch) (s : State) : Prop where
  seen_high : s.prev.get c = true
  is_open : s.pulseOpen.get c = true
  reference : s.ref.get c = r

/-- The operation is a CAPTURE that finds the pin of channel `c` low. -/
def CapturesLow (c : Ch) (i : Instr) (s : State) : Prop := i = .capture ∧ level s.pins c = false

/-- The CAPTURE that sees the rise opens the pulse. -/
theorem captureBody_opens {c : Ch} {s : State} (hprev : s.prev.get c = false)
    (hlevel : level s.pins c = true) : OpenSince (now s) c (captureBody s) := by
  obtain ⟨hseen, _⟩ := captureBody_get s c
  obtain ⟨href, hopen, _⟩ := captureBody_of_rise hprev hlevel
  exact ⟨hseen.trans hlevel, hopen, href⟩

/-- A CAPTURE that finds the pin still high sees no edge. -/
theorem captureBody_openSince {r : Word} {c : Ch} {s : State} (hs : OpenSince r c s)
    (hlevel : level s.pins c = true) : OpenSince r c (captureBody s) := by
  obtain ⟨hseen, _⟩ := captureBody_get s c
  obtain ⟨href, hopen, _⟩ := captureBody_of_no_edge (.inl (hs.seen_high.trans hlevel.symm))
  exact ⟨hseen.trans hlevel, hopen.trans hs.is_open, href.trans hs.reference⟩

/-- R80: between the edges nothing else touches the pulse, whatever the other channel does. -/
theorem openSince_exec {r : Word} {c : Ch} {i : Instr} {s t : State} (hs : OpenSince r c s)
    (hreset : i ≠ .reset) (hhigh : ¬CapturesLow c i s) (h : exec i s = .next t) : OpenSince r c t := by
  by_cases hcapture : i = .capture
  · subst hcapture
    cases h
    have hlevel : level s.pins c = true := eq_true_of_ne_false fun hlow => hhigh ⟨rfl, hlow⟩
    have hcleared : OpenSince r c (clearPending s .pinChange) := ⟨hs.seen_high, hs.is_open, hs.reference⟩
    exact takeInterrupt_induct _ _ hs fun _ => captureBody_openSince hcleared hlevel
  · obtain ⟨hprev, hopen, href⟩ := edgeRegisters_eq_iff.1 (exec_edgeRegisters hreset hcapture h)
    exact ⟨hprev ▸ hs.seen_high, hopen ▸ hs.is_open, href ▸ hs.reference⟩

/-- R80's premise for the first operation and for the rest, in the state that the first one reaches. -/
theorem pulseStaysHigh_cons {i : Instr} {s t : State} (c : Ch) (h : exec i s = .next t) (l : List Instr) :
    pulseStaysHigh c (i :: l) s = true ↔ ¬CapturesLow c i s ∧ pulseStaysHigh c l t = true := by
  have hlow : (i == .capture && !level s.pins c) = true ↔ CapturesLow c i s := by
    simp [CapturesLow]
  simp only [pulseStaysHigh, h, Bool.and_eq_true, Bool.not_eq_true', ← Bool.not_eq_true, ← hlow]

theorem openSince_execList {r : Word} {c : Ch} {l : List Instr} {s t : State} (hs : OpenSince r c s)
    (hl : noReset l) (hhigh : pulseStaysHigh c l s = true) (h : execList l s = .next t) :
    OpenSince r c t := by
  induction l generalizing s with
  | nil => cases h; exact hs
  | cons i l ih =>
    obtain ⟨⟨hlegal, hreset⟩, hrest⟩ := List.forall_mem_cons.1 hl
    obtain ⟨u, hu⟩ := exec_next hlegal s
    obtain ⟨hfirst, hhigh⟩ := (pulseStaysHigh_cons c hu l).1 hhigh
    exact ih (openSince_exec hs hreset hfirst hu) hrest hhigh ((execList_cons_next hu l).symm.trans h)

/-- Settles O21: the pulse stays open since the rise, while the timestamp counts the ticks (R65). -/
theorem capturedWidthIsTheTicksBetween : Obligations.CapturedWidthIsTheTicksBetween := by
  intro c s a b l hrise hprev hhigh ha hl hstays hkept hb hfall hlow
  have hopened : OpenSince (now s) c a := by
    cases (exec_capture_of_eligible hrise).symm.trans ha
    exact captureBody_opens (s := clearPending s .pinChange) hprev hhigh
  have hopen := openSince_execList hopened hl hstays hb
  have hticks : now b = now s + BitVec.ofNat 16 (l.count .tickIn) := by
    obtain ⟨b', hb', hnow⟩ := now_execList hl hkept
    cases hb'.symm.trans hb
    rw [hnow, now_exec_of_ne_tickIn (by decide) (by decide) ha]
  obtain ⟨hwidth, hstarted, _⟩ :=
    captureBody_of_fall (s := clearPending b .pinChange) hopen.seen_high hlow hopen.is_open
  refine ⟨_, exec_capture_of_eligible hfall, hstarted, ?_⟩
  have hcount : now b - b.ref.get c = BitVec.ofNat 16 (l.count .tickIn) := by
    rw [hopen.reference, hticks, add_sub_cancel_left]
  exact (congrArg BitVec.toNat (hwidth.trans hcount)).trans (BitVec.toNat_ofNat _ _)

end Sys2Proof.Machine
end

section
/-! PROOFS. The Calibration State Machine (spec 43_calibration.md): what CAL_STEP and CAL_SAMPLE do in each
kind of state (R82 to R88), the record that Finish stores and BOOT loads (R87, R110, R114), and what every
operation keeps of a calibration in progress (R89, R90). -/

namespace Sys2Proof.Machine

/-! ### The enabling condition of the two operations (R82, R83) -/

theorem isCalibrating_iff (s : State) :
    isCalibrating s = true ↔ s.engSt = .active ∧ s.mode = .calibrating := by
  simp [isCalibrating]

theorem not_isCalibrating_iff (s : State) :
    isCalibrating s = false ↔ s.engSt ≠ .active ∨ s.mode = .running := by
  cases hmode : s.mode <;> simp [isCalibrating, hmode]

theorem exec_calStep_of_fresh {c : Ch} {s : State} (hcal : isCalibrating s = true)
    (hfresh : s.fresh.get c = true) :
    exec (.calStep c) s =
      .next (calSampleOp c (s.chv.get c) { s with fresh := s.fresh.set c false }) := by
  simp [exec, execCalStep, hcal, hfresh]

theorem exec_calStep_of_disabled {c : Ch} {s : State}
    (h : isCalibrating s = false ∨ s.fresh.get c = false) : exec (.calStep c) s = .next s := by
  rcases h with h | h <;> simp [exec, execCalStep, h]

/-- The state in which `w` has just been presented on channel `c` and is being consumed (R83). -/
def State.withSample (c : Ch) (w : Word) (s : State) : State :=
  { s with chv := s.chv.set c w, fresh := s.fresh.set c false }

theorem exec_calSample_of_calibrating {c : Ch} {s : State} (w : Word) (hcal : isCalibrating s = true) :
    exec (.calSample c w) s = .next (calSampleOp c w (s.withSample c w)) :=
  congrArg Host.Outcome.next (if_pos hcal)

theorem exec_calSample_of_not_calibrating {c : Ch} {s : State} (w : Word)
    (hcal : isCalibrating s = false) : exec (.calSample c w) s = .next s :=
  congrArg Host.Outcome.next (if_neg (Bool.eq_false_iff.1 hcal))

theorem calSampleOp_chv (c : Ch) (w : Word) (s : State) : (calSampleOp c w s).chv = s.chv :=
  (congrArg State.chv (calSampleOp_frame c w s) :)

theorem calSampleOp_fresh (c : Ch) (w : Word) (s : State) : (calSampleOp c w s).fresh = s.fresh :=
  (congrArg State.fresh (calSampleOp_frame c w s) :)

/-- Settles O23: the held width presented directly is written back to where it was held. -/
theorem calStepConsumesTheHeldWidth : Obligations.CalStepConsumesTheHeldWidth := by
  refine ⟨spells_of_encode_eq rfl rfl, spells_of_encode_eq rfl rfl, fun _ => rfl, ?_, ?_⟩
  · intro c s hactive hmode hfresh
    have hcal := (isCalibrating_iff s).2 ⟨hactive, hmode⟩
    refine ⟨_, exec_calStep_of_fresh hcal hfresh, ?_, calSampleOp_fresh _ _ _, calSampleOp_chv _ _ _⟩
    rw [exec_calSample_of_calibrating _ hcal, State.withSample, Chan_set_get]
  · intro c s hdisabled
    refine exec_calStep_of_disabled ?_
    rwa [not_isCalibrating_iff, or_assoc]

/-! ### One sample, state by state (R84 to R88) -/

/-- R81, R88: `DONE` takes no sample, and the other states take none of a channel that is not active. -/
theorem calSampleOp_of_inactive {c : Ch} {s : State} (w : Word)
    (h : s.calState = .done ∨ c ≠ calActive s.calState) : calSampleOp c w s = s := by
  rcases h with hdone | hc
  · simp [calSampleOp, hdone, calKind]
  · unfold calSampleOp
    split
    · rfl
    all_goals exact if_neg hc

/-- R84: an improved maximum. -/
theorem calSampleOp_of_gt_cmax {c : Ch} {w : Word} {s : State} (hkind : calKind s.calState = .high)
    (hc : c = calActive s.calState) (hw : w > s.cmax.get c) :
    calSampleOp c w s = { s with cmax := s.cmax.set c w, calCnt := 0#16 } := by
  simp [calSampleOp, calHigh, hkind, ← hc, hw]

/-- R85: an improved minimum. -/
theorem calSampleOp_of_lt_cmin {c : Ch} {w : Word} {s : State} (hkind : calKind s.calState = .low)
    (hc : c = calActive s.calState) (hw : w < s.cmin.get c) :
    calSampleOp c w s = { s with cmin := s.cmin.set c w, calCnt := 0#16 } := by
  simp [calSampleOp, calLow, hkind, ← hc, hw]

/-- R84, R85: a sample of the active channel that does not improve the extreme. -/
def IsStable (c : Ch) (w : Word) (s : State) : Prop :=
  calKind s.calState = .high ∧ ¬w > s.cmax.get c ∨ calKind s.calState = .low ∧ ¬w < s.cmin.get c

theorem calSampleOp_of_stable {c : Ch} {w : Word} {s : State} (hstable : IsStable c w s)
    (hc : c = calActive s.calState) (hcnt : s.calCnt.toNat + 1 ≤ s.params.calThresh.val) :
    calSampleOp c w s = { s with calCnt := s.calCnt + 1#16 } := by
  rcases hstable with ⟨hkind, hw⟩ | ⟨hkind, hw⟩
  · simp [calSampleOp, calHigh, calStable, hkind, ← hc, hw, Nat.not_lt.2 hcnt]
  · simp [calSampleOp, calLow, calStable, hkind, ← hc, hw, Nat.not_lt.2 hcnt]

/-- R84, R85: the sample that leaves a HIGH state or `C0_LOW`. -/
theorem calSampleOp_of_settled {c : Ch} {w : Word} {s : State} (hstable : IsStable c w s)
    (hc : c = calActive s.calState) (hcnt : s.calCnt.toNat + 1 > s.params.calThresh.val)
    (hst : s.calState ≠ .c1Low) :
    calSampleOp c w s = { s with calCnt := 0#16, calState := calNext s.calState } := by
  rcases hstable with ⟨hkind, hw⟩ | ⟨hkind, hw⟩
  · simp [calSampleOp, calHigh, calStable, hkind, ← hc, hw, hcnt]
  · simp [calSampleOp, calLow, calStable, hkind, ← hc, hw, hcnt, hst]

/-- R85, R87: the sample that completes `C1_LOW`. -/
theorem calSampleOp_of_completed {w : Word} {s : State} (hst : s.calState = .c1Low)
    (hw : ¬w < s.cmin.c1) (hcnt : s.calCnt.toNat + 1 > s.params.calThresh.val) :
    calSampleOp .ch1 w s = finish { s with calCnt := 0#16 } := by
  simp [calSampleOp, calLow, calStable, calKind, calActive, hst, hw, hcnt]

/-- R86: a sample discarded. -/
theorem calSampleOp_of_waiting {c : Ch} {s : State} (w : Word) (hkind : calKind s.calState = .wait)
    (hc : c = calActive s.calState) (hcnt : s.calCnt.toNat + 1 < s.params.calWait) :
    calSampleOp c w s = { s with calCnt := s.calCnt + 1#16 } := by
  simp [calSampleOp, calWaitStep, hkind, ← hc, Nat.not_le.2 hcnt]

/-- R86: the last sample discarded. -/
theorem calSampleOp_of_waited {c : Ch} {s : State} (w : Word) (hkind : calKind s.calState = .wait)
    (hc : c = calActive s.calState) (hcnt : s.calCnt.toNat + 1 ≥ s.params.calWait) :
    calSampleOp c w s =
      { s with calCnt := 0#16
               calState := calNext s.calState
               cmin := if calKind (calNext s.calState) = .low then s.cmin.set c (s.cmax.get c)
                       else s.cmin } := by
  simp [calSampleOp, calWaitStep, hkind, ← hc, hcnt]

/-! ### The counter (R5, R21) -/

theorem toNat_add_one_of_le {n : Word} {bound : Nat} (h : n.toNat + 1 ≤ bound) (hbound : bound ≤ 65535) :
    (n + 1#16).toNat = n.toNat + 1 := by
  bv_omega

/-- `CAL_THRESH` keeps the stability counter from wrapping. -/
theorem calThresh_le (p : Config.Params) : p.calThresh.val ≤ 65535 := p.calThresh.isLt.le

/-- `CAL_WAIT` keeps the count of discarded samples from wrapping. -/
theorem calWait_bounds (p : Config.Params) : 0 < p.calWait ∧ p.calWait ≤ 65535 :=
  ⟨Nat.succ_pos _, p.calWaitLess1.isLt⟩

/-! ### The two operations in each kind of state -/

/-- Settles O24: injecting a width and consuming it write `CHV` and `FRESH` as CAL_SAMPLE does. -/
theorem calSampleInjectsAndConsumes : Obligations.CalSampleInjectsAndConsumes := by
  refine ⟨fun w => spells_of_encode_eq rfl rfl, fun w => spells_of_encode_eq rfl rfl, fun _ _ => rfl,
    ?_, ?_⟩
  · intro c w s hactive hmode
    have hcal := (isCalibrating_iff s).2 ⟨hactive, hmode⟩
    refine ⟨_, exec_calSample_of_calibrating w hcal, ?_, calSampleOp_chv _ _ _,
      calSampleOp_fresh _ _ _, ?_⟩
    · have hinjected := exec_calStep_of_fresh (c := c)
        (s := { s with chv := s.chv.set c w, fresh := s.fresh.set c true }) hcal (Chan_get_set _ _ _)
      simpa only [Chan_get_set, Chan_set_set, State.withSample] using hinjected
    · intro hinactive
      rw [calSampleOp_of_inactive (s := s.withSample c w) w hinactive]
      rfl
  · intro c w s hdisabled
    exact exec_calSample_of_not_calibrating w ((not_isCalibrating_iff s).2 hdisabled)

/-- Settles O25: the three ways of a sample through a HIGH state. -/
theorem highStateTracksTheMaximum : Obligations.HighStateTracksTheMaximum := by
  intro c w s hactive hmode hstate
  have hcal := (isCalibrating_iff s).2 ⟨hactive, hmode⟩
  obtain ⟨hkind, hc, hne⟩ :
      calKind s.calState = .high ∧ c = calActive s.calState ∧ s.calState ≠ .c1Low := by
    rcases hstate with ⟨hst, rfl⟩ | ⟨hst, rfl⟩ <;> rw [hst] <;> decide
  rw [exec_calSample_of_calibrating w hcal]
  by_cases hw : w > s.cmax.get c
  · rw [calSampleOp_of_gt_cmax (s := s.withSample c w) hkind hc hw]
    have hnot : ¬w.toNat ≤ (s.cmax.get c).toNat := Nat.not_le.2 hw
    exact ⟨_, rfl, rfl, fun _ => rfl, fun _ => ⟨rfl, rfl, rfl⟩, fun hle => absurd hle hnot,
      fun hle => absurd hle hnot⟩
  have hstable : IsStable c w (s.withSample c w) := .inl ⟨hkind, hw⟩
  by_cases hcnt : s.calCnt.toNat + 1 ≤ s.params.calThresh.val
  · rw [calSampleOp_of_stable hstable hc hcnt]
    exact ⟨_, rfl, rfl, fun _ => rfl, fun hgt => absurd hgt hw,
      fun _ _ => ⟨rfl, toNat_add_one_of_le hcnt (calThresh_le _), rfl⟩,
      fun _ hover => absurd hcnt (Nat.not_le.2 hover)⟩
  · rw [calSampleOp_of_settled hstable hc (Nat.not_le.1 hcnt) hne]
    refine ⟨_, rfl, rfl, fun _ => rfl, fun hgt => absurd hgt hw, fun _ hle => absurd hle hcnt,
      fun _ _ => ⟨rfl, rfl, ?_⟩⟩
    rcases hstate with ⟨hst, rfl⟩ | ⟨hst, rfl⟩ <;> exact congrArg calNext hst

/-- Settles O26: the three ways of a sample through a LOW state, but for the completion of `C1_LOW`. -/
theorem lowStateTracksTheMinimum : Obligations.LowStateTracksTheMinimum := by
  intro c w s hactive hmode hstate
  have hcal := (isCalibrating_iff s).2 ⟨hactive, hmode⟩
  obtain ⟨hkind, hc⟩ : calKind s.calState = .low ∧ c = calActive s.calState := by
    rcases hstate with ⟨hst, rfl⟩ | ⟨hst, rfl⟩ <;> rw [hst] <;> decide
  rw [exec_calSample_of_calibrating w hcal]
  have hstable (hw : w.toNat ≥ (s.cmin.get c).toNat) : IsStable c w (s.withSample c w) :=
    .inr ⟨hkind, Nat.not_lt.2 hw⟩
  refine ⟨fun hw => ?_, fun hw hcnt => ?_, fun hw hcnt hc0 => ?_⟩
  · rw [calSampleOp_of_lt_cmin (s := s.withSample c w) hkind hc hw]
    rfl
  · rw [calSampleOp_of_stable (hstable hw) hc hcnt]
    exact ⟨_, rfl, toNat_add_one_of_le hcnt (calThresh_le _), rfl⟩
  · subst hc0
    have hst : s.calState = .c0Low := by
      rcases hstate with ⟨hst, _⟩ | ⟨_, hch1⟩
      · exact hst
      · cases hch1
    have hne : s.calState ≠ .c1Low := by rw [hst]; decide
    rw [calSampleOp_of_settled (hstable hw) hc hcnt hne]
    simp only [State.withSample, hst, calNext]

/-- Settles O27: the discarded sample is counted, and the last one enters the state that follows. -/
theorem waitStateDiscardsSamples : Obligations.WaitStateDiscardsSamples := by
  intro c w s hactive hmode hstate
  have hcal := (isCalibrating_iff s).2 ⟨hactive, hmode⟩
  obtain ⟨hkind, hc⟩ : calKind s.calState = .wait ∧ c = calActive s.calState := by
    rcases hstate with ⟨hst, rfl⟩ | ⟨hst, rfl⟩ | ⟨hst, rfl⟩ <;> rw [hst] <;> decide
  rw [exec_calSample_of_calibrating w hcal]
  obtain ⟨_, hwait⟩ := calWait_bounds s.params
  constructor
  · intro hcnt
    rw [calSampleOp_of_waiting (s := s.withSample c w) w hkind hc hcnt]
    exact ⟨_, rfl, toNat_add_one_of_le hcnt.le hwait, rfl⟩
  · intro hcnt
    rw [calSampleOp_of_waited (s := s.withSample c w) w hkind hc hcnt]
    refine ⟨fun hst => ?_, fun hst => ?_, fun hst => ?_⟩
    all_goals
      rw [hst] at hc
      subst hc
      simp [State.withSample, hst, calNext, calKind, calActive]

/-! ### Finish, and the record it stores (R87, R114) -/

/-- R87: a mid-point lies between its minimum and its maximum. -/
theorem midPoint_mem {a b : Word} (h : a ≤ b) : a ≤ midPoint a b ∧ midPoint a b ≤ b := by
  have hmid := toNat_midPoint h
  simp only [BitVec.le_def] at h ⊢
  omega

/-- R87: the low-throttle threshold lies between the minimum and the maximum. -/
theorem lowThrottle_mem {a b : Word} (h : a ≤ b) : a ≤ lowThrottle a b ∧ lowThrottle a b ≤ b := by
  have hthr := toNat_lowThrottle_of_le h
  simp only [BitVec.le_def] at h ⊢
  omega

theorem exec_calSample_of_completed {w : Word} {s : State} (hcal : isCalibrating s = true)
    (hst : s.calState = .c1Low) (hw : s.cmin.c1 ≤ w)
    (hcnt : s.calCnt.toNat + 1 > s.params.calThresh.val) :
    exec (.calSample .ch1 w) s = .next (finish { s.withSample .ch1 w with calCnt := 0#16 }) := by
  rw [exec_calSample_of_calibrating w hcal,
    calSampleOp_of_completed (s := s.withSample .ch1 w) hst (BitVec.not_lt.2 hw) hcnt]

/-- R38, R87: every data byte that Finish stores. -/
theorem nvmRead_finish {s : State} (hs : NvmCanonical s) (x : Fin 13) (hx : x ≠ 12) :
    nvmRead (finish s).nvm x = recordByte s.cmin s.cmax (finish s).cmid x :=
  nvmRead_writeRecord hs _ _ _ _ x hx

/-- R39, R87: the record that Finish stores is valid. -/
theorem recordValid_finish {s : State} (hs : NvmCanonical s) :
    recordValid (finish s).params.chkSeed (finish s).nvm = true :=
  recordValid_writeRecord hs _ _ _ _

/-- Settles O28: Finish by the laws of its arithmetic and of the store. -/
theorem finishDerivesAndStoresTheRecord : Obligations.FinishDerivesAndStoresTheRecord := by
  intro w s hactive hmode hst hw hcnt hmax0 hmax1 hnvm
  have hcal := (isCalibrating_iff s).2 ⟨hactive, hmode⟩
  have hbyte := nvmRead_finish (s := { s.withSample .ch1 w with calCnt := 0#16 }) hnvm
  have hvalid := recordValid_finish (s := { s.withSample .ch1 w with calCnt := 0#16 }) hnvm
  exact ⟨_, exec_calSample_of_completed hcal hst hw hcnt, rfl, rfl, rfl, rfl, toNat_midPoint hmax0,
    toNat_midPoint hmax1, toNat_lowThrottle_of_le hmax0, hbyte 0 (by decide), hbyte 1 (by decide),
    hbyte 2 (by decide), hbyte 3 (by decide), hbyte 4 (by decide), hbyte 5 (by decide),
    hbyte 6 (by decide), hbyte 7 (by decide), hbyte 8 (by decide), hbyte 9 (by decide),
    hbyte 10 (by decide), hbyte 11 (by decide), (recordValid_iff _).1 hvalid, rfl⟩

/-- The minima that a record stores (R38). -/
def storedMin (m : Memory) : Chan Word := { c0 := nvmReadWord m 0 1, c1 := nvmReadWord m 6 7 }

/-- The maxima that a record stores (R38). -/
def storedMax (m : Memory) : Chan Word := { c0 := nvmReadWord m 2 3, c1 := nvmReadWord m 8 9 }

/-- The mid-points that a record stores (R38). -/
def storedMid (m : Memory) : Chan Word := { c0 := nvmReadWord m 4 5, c1 := nvmReadWord m 10 11 }

/-- R110, R114: BOOT without the jumper takes a valid record from the store. -/
theorem exec_boot_of_recordValid {s : State} (hst : s.engSt = .preboot)
    (hvalid : recordValid s.params.chkSeed s.nvm = true) :
    exec (.boot false) s = .next (activate
      { s with mode := .running, cmin := storedMin s.nvm, cmax := storedMax s.nvm,
               cmid := storedMid s.nvm, thr := lowThrottle (storedMin s.nvm).c0 (storedMax s.nvm).c0,
               recValid := true }) := by
  simp [exec, execBoot, load, hst, hvalid, storedMin, storedMax, storedMid]

/-- R38, R40: a field is read back from its two bytes. -/
theorem nvmReadWord_of_bytes {m : Memory} {lo hi : Fin 13} {v : Word} (hlo : nvmRead m lo = lowByte v)
    (hhi : nvmRead m hi = highByte v) : nvmReadWord m lo hi = v := by
  rw [nvmReadWord, hlo, hhi, joinBytes_lowByte_highByte]

/-- R87, R114: Load reads what Finish stored. -/
theorem stored_finish {s : State} (hs : NvmCanonical s) :
    storedMin (finish s).nvm = s.cmin ∧ storedMax (finish s).nvm = s.cmax ∧
      storedMid (finish s).nvm = (finish s).cmid := by
  have hbyte := nvmRead_finish hs
  refine ⟨?_, ?_, ?_⟩ <;> refine Chan_ext fun c => ?_ <;> cases c
  · exact nvmReadWord_of_bytes (hbyte 0 (by decide)) (hbyte 1 (by decide))
  · exact nvmReadWord_of_bytes (hbyte 6 (by decide)) (hbyte 7 (by decide))
  · exact nvmReadWord_of_bytes (hbyte 2 (by decide)) (hbyte 3 (by decide))
  · exact nvmReadWord_of_bytes (hbyte 8 (by decide)) (hbyte 9 (by decide))
  · exact nvmReadWord_of_bytes (hbyte 4 (by decide)) (hbyte 5 (by decide))
  · exact nvmReadWord_of_bytes (hbyte 10 (by decide)) (hbyte 11 (by decide))

/-- R109, R114: RESET keeps the store and its seed, so BOOT loads the record as it was stored. -/
theorem execList_reset_boot_of_recordValid {s : State}
    (hvalid : recordValid s.params.chkSeed s.nvm = true) :
    ∃ u : State, execList [.reset, .boot false] s = .next u ∧
      u.engSt = .active ∧ u.mode = .running ∧ u.recValid = true ∧ u.flt = 0#3 ∧
      u.cmin = storedMin s.nvm ∧ u.cmax = storedMax s.nvm ∧ u.cmid = storedMid s.nvm ∧
      u.thr = lowThrottle (storedMin s.nvm).c0 (storedMax s.nvm).c0 := by
  have hboot := exec_boot_of_recordValid
    (s := { State.reset with nvm := s.nvm, params := s.params, stream := s.stream }) rfl hvalid
  exact ⟨_, execList_cons_next hboot [], rfl, rfl, rfl, rfl, rfl, rfl, rfl, rfl⟩

/-- Settles O29: what is loaded is what Finish stored, the threshold being derived from it again. -/
theorem storedRecordIsReloadedAfterReset : Obligations.StoredRecordIsReloadedAfterReset := by
  intro w s t hcal hst hw hcnt hnvm h
  cases (exec_calSample_of_completed hcal hst hw hcnt).symm.trans h
  have hcanonical : NvmCanonical { s.withSample .ch1 w with calCnt := 0#16 } := hnvm
  obtain ⟨hmin, hmax, hmid⟩ := stored_finish hcanonical
  have hload := execList_reset_boot_of_recordValid (recordValid_finish hcanonical)
  rwa [hmin, hmax, hmid] at hload

/-! ### The operations that reach calibration (R89) -/

/-- The registers that calibration moves, the engine state and the parameters. -/
def calibrationView (s : State) :
    EngSt × CalState × Word × Bool × Chan Word × Chan Word × Chan Word × Word × Config.Params :=
  (s.engSt, s.calState, s.calCnt, s.ind, s.cmin, s.cmax, s.cmid, s.thr, s.params)

theorem calibrationView_eq_iff {s t : State} :
    calibrationView t = calibrationView s ↔
      t.engSt = s.engSt ∧ t.calState = s.calState ∧ t.calCnt = s.calCnt ∧ t.ind = s.ind ∧
        t.cmin = s.cmin ∧ t.cmax = s.cmax ∧ t.cmid = s.cmid ∧ t.thr = s.thr ∧ t.params = s.params := by
  simp [calibrationView]

/-- R34: only RESET, BOOT and the two calibration operations write what calibration moves. -/
theorem exec_calibrationView {i : Instr} {s t : State} (hi : touchesCalibration i = false)
    (hboot : ∀ j : Bool, i ≠ .boot j) (h : exec i s = .next t) :
    calibrationView t = calibrationView s := by
  cases ha : agent i with
  | hw => exact (congrArg calibrationView (exec_hw_frame h ha) :)
  | env => exact (congrArg calibrationView (exec_env_frame (by rintro rfl; cases hi) h ha) :)
  | irq => exact (congrArg calibrationView (exec_irq_frame h ha) :)
  | main =>
    cases i with
    | now => exact (congrArg calibrationView (exec_now_frame h) :)
    | irqMask => exact (congrArg calibrationView (exec_irqMask_frame h) :)
    | irqUnmask => exact (congrArg calibrationView (exec_irqUnmask_frame h) :)
    | mix => exact (congrArg calibrationView (exec_mix_frame h) :)
    | outStart => exact (congrArg calibrationView (exec_outStart_frame h) :)
    | outPoll => exact (congrArg calibrationView (exec_outPoll_frame h) :)
    | boot j => exact absurd rfl (hboot j)
    | outCfg e => exact (congrArg calibrationView (exec_outCfg_frame e h) :)
    | takeStep c => exact (congrArg calibrationView (exec_takeStep_frame c h) :)
    | tryTake c => exact (congrArg calibrationView (exec_tryTake_frame c h) :)
    | setWidths a b => exact (congrArg calibrationView (exec_setWidths_frame a b h) :)
    | xform p q => exact (congrArg calibrationView (exec_xform_frame p q h) :)
    | calStep _ | calSample _ _ => cases hi
    | _ => simp [agent] at ha

/-- Settles O30: BOOT writes the record and the mode, and every other such operation nothing of this. -/
theorem onlySamplesMoveCalibration : Obligations.OnlySamplesMoveCalibration := by
  intro i s t hi h
  by_cases hboot : ∃ j : Bool, i = .boot j
  · obtain ⟨j, rfl⟩ := hboot
    rw [exec_boot_frame j h]
    exact ⟨rfl, rfl, rfl⟩
  · obtain ⟨_, hstate, hcnt, hind, _⟩ :=
      calibrationView_eq_iff.1 (exec_calibrationView hi (not_exists.1 hboot) h)
    exact ⟨hstate, hcnt, hind⟩

/-- R82, R83: all that the operations of a trace between BOOT and RESET can do to a calibration. -/
theorem exec_calibration_cases {i : Instr} {s t : State} (hreset : i ≠ .reset)
    (hboot : ∀ j : Bool, i ≠ .boot j) (h : exec i s = .next t) :
    calibrationView t = calibrationView s ∨
      ∃ (c : Ch) (w : Word) (u : State), calibrationView u = calibrationView s ∧
        isCalibrating u = true ∧ t = calSampleOp c w u := by
  cases htouch : touchesCalibration i with
  | false => exact .inl (exec_calibrationView htouch hboot h)
  | true =>
    cases i with
    | reset => exact absurd rfl hreset
    | calStep c =>
      by_cases hon : isCalibrating s = true ∧ s.fresh.get c = true
      · obtain ⟨hcal, hfresh⟩ := hon
        cases (exec_calStep_of_fresh hcal hfresh).symm.trans h
        exact .inr ⟨c, s.chv.get c, { s with fresh := s.fresh.set c false }, rfl, hcal, rfl⟩
      · rw [not_and_or, Bool.not_eq_true, Bool.not_eq_true] at hon
        cases (exec_calStep_of_disabled hon).symm.trans h
        exact .inl rfl
    | calSample c w =>
      cases hcal : isCalibrating s with
      | true =>
        cases (exec_calSample_of_calibrating w hcal).symm.trans h
        exact .inr ⟨c, w, s.withSample c w, rfl, hcal, rfl⟩
      | false =>
        cases (exec_calSample_of_not_calibrating w hcal).symm.trans h
        exact .inl rfl
    | _ => cases htouch

/-! ### Calibration moves forward (R90 a, b, f) -/

/-- From here on the minimum of channel `c` is recorded (R86, R90 d). -/
def lowSeen : Ch → CalState → Bool
  | .ch0 => lowSeen0
  | .ch1 => lowSeen1

/-- R81: the recording of a minimum begins on entering the LOW state of its channel. -/
theorem lowSeen_calNext (c : Ch) (st : CalState) :
    lowSeen c (calNext st) =
      (lowSeen c st || (decide (c = calActive st) && decide (calKind (calNext st) = .low))) := by
  cases c <;> cases st <;> rfl

theorem lowSeen_calActive_of_calNext_low {st : CalState} (h : calKind (calNext st) = .low) :
    lowSeen (calActive st) st = false := by
  cases st with
  | waitA | waitC => rfl
  | _ => cases h

/-- What calibration may do from `s` to `t` between BOOT and RESET: R90 (a), (b), (f), and that a minimum
begins at its maximum (R86). -/
structure MovesForward (s t : State) : Prop where
  max_le : ∀ c : Ch, s.cmax.get c ≤ t.cmax.get c
  min_le : ∀ c : Ch, lowSeen c s.calState = true → t.cmin.get c ≤ s.cmin.get c
  next_state : t.calState = s.calState ∨ t.calState = calNext s.calState
  starts_at_max : ∀ c : Ch, lowSeen c s.calState = false → lowSeen c t.calState = true →
    t.cmin.get c = t.cmax.get c

theorem MovesForward.of_same_state {s t : State} (hstate : t.calState = s.calState)
    (hmax : ∀ c : Ch, s.cmax.get c ≤ t.cmax.get c) (hmin : ∀ c : Ch, t.cmin.get c ≤ s.cmin.get c) :
    MovesForward s t where
  max_le := hmax
  min_le c _ := hmin c
  next_state := .inl hstate
  starts_at_max c hbefore hafter := by simp [hstate, hbefore] at hafter

theorem MovesForward.of_same_extremes {s t : State} (hstate : t.calState = s.calState)
    (hmax : t.cmax = s.cmax) (hmin : t.cmin = s.cmin) : MovesForward s t :=
  .of_same_state hstate (fun _ => hmax ▸ BitVec.le_refl _) (fun _ => hmin ▸ BitVec.le_refl _)

/-- Leaving a state for one in which no minimum begins. -/
theorem MovesForward.of_not_low {s t : State} (hstate : t.calState = calNext s.calState)
    (hkind : calKind (calNext s.calState) ≠ .low) (hmax : t.cmax = s.cmax) (hmin : t.cmin = s.cmin) :
    MovesForward s t where
  max_le _ := hmax ▸ BitVec.le_refl _
  min_le _ _ := hmin ▸ BitVec.le_refl _
  next_state := .inr hstate
  starts_at_max c hbefore hafter := by simp [hstate, lowSeen_calNext, hbefore, hkind] at hafter

/-- R86: entering a LOW state. -/
theorem MovesForward.of_low {s t : State} (hstate : t.calState = calNext s.calState)
    (hkind : calKind (calNext s.calState) = .low) (hmax : t.cmax = s.cmax)
    (hmin : t.cmin = s.cmin.set (calActive s.calState) (s.cmax.get (calActive s.calState))) :
    MovesForward s t where
  max_le _ := hmax ▸ BitVec.le_refl _
  min_le c hseen := by
    have hne : c ≠ calActive s.calState := by
      rintro rfl
      rw [lowSeen_calActive_of_calNext_low hkind] at hseen
      cases hseen
    rw [hmin, Chan_get_set_of_ne _ _ hne]
    exact BitVec.le_refl _
  next_state := .inr hstate
  starts_at_max c hbefore hafter := by
    have hc : c = calActive s.calState := by simpa [hstate, lowSeen_calNext, hbefore, hkind] using hafter
    rw [hmin, hmax, hc, Chan_get_set]

/-- Between two states that look the same to calibration as `s` and `t`. -/
theorem MovesForward.of_view_eq {s u t : State} (h : MovesForward u t)
    (hview : calibrationView u = calibrationView s) : MovesForward s t := by
  obtain ⟨_, hstate, _, _, hmin, hmax, _⟩ := calibrationView_eq_iff.1 hview
  obtain ⟨hmax', hmin', hstate', hstart⟩ := h
  rw [hstate] at hmin' hstate' hstart
  rw [hmax] at hmax'
  rw [hmin] at hmin'
  exact ⟨hmax', hmin', hstate', hstart⟩

theorem Chan_get_le_get_set {x : Chan Word} {c : Ch} {v : Word} (h : x.get c ≤ v) (d : Ch) :
    x.get d ≤ (x.set c v).get d := by
  by_cases hd : d = c
  · rwa [hd, Chan_get_set]
  · rw [Chan_get_set_of_ne _ _ hd]
    exact BitVec.le_refl _

theorem Chan_get_set_le_get {x : Chan Word} {c : Ch} {v : Word} (h : v ≤ x.get c) (d : Ch) :
    (x.set c v).get d ≤ x.get d := by
  by_cases hd : d = c
  · rwa [hd, Chan_get_set]
  · rw [Chan_get_set_of_ne _ _ hd]
    exact BitVec.le_refl _

theorem calKind_calNext_ne_low_of_high {st : CalState} (h : calKind st = .high) :
    calKind (calNext st) ≠ .low := by
  cases st with
  | c0High | c1High => decide
  | _ => cases h

/-- R90 (a), (b), (f) for one sample. -/
theorem calSampleOp_movesForward (c : Ch) (w : Word) (s : State) : MovesForward s (calSampleOp c w s) := by
  rcases calSampleOp_cases c w s with ⟨_, h⟩ | ⟨_, _, hw, h⟩ | ⟨_, _, _, h⟩ | ⟨_, hkind, _, _, h⟩ |
    ⟨_, _, hw, h⟩ | ⟨_, hst, _, _, h⟩ | ⟨_, hst, _, _, h⟩ | ⟨_, _, _, h⟩ | ⟨hc, _, _, h⟩ <;> rw [h]
  · exact .of_same_extremes rfl rfl rfl
  · exact .of_same_state rfl (Chan_get_le_get_set (BitVec.le_of_lt hw)) fun _ => BitVec.le_refl _
  · exact .of_same_extremes rfl rfl rfl
  · exact .of_not_low rfl (calKind_calNext_ne_low_of_high hkind) rfl rfl
  · exact .of_same_state rfl (fun _ => BitVec.le_refl _) (Chan_get_set_le_get (BitVec.le_of_lt hw))
  · exact .of_not_low (by rw [hst]; rfl) (by rw [hst]; decide) rfl rfl
  · exact .of_not_low (by rw [hst]; rfl) (by rw [hst]; decide) rfl rfl
  · exact .of_same_extremes rfl rfl rfl
  · subst hc
    by_cases hkind : calKind (calNext s.calState) = .low
    · exact .of_low rfl hkind rfl (if_pos hkind)
    · exact .of_not_low rfl hkind rfl (if_neg hkind)

theorem exec_movesForward {i : Instr} {s t : State} (hreset : i ≠ .reset) (hboot : ∀ j : Bool, i ≠ .boot j)
    (h : exec i s = .next t) : MovesForward s t := by
  rcases exec_calibration_cases hreset hboot h with hview | ⟨c, w, u, hview, _, rfl⟩
  · obtain ⟨_, hstate, _, _, hmin, hmax, _⟩ := calibrationView_eq_iff.1 hview
    exact .of_same_extremes hstate hmax hmin
  · exact (calSampleOp_movesForward c w u).of_view_eq hview

/-- Settles O31: the four fields of `MovesForward` but the last, channel by channel. -/
theorem calibrationMovesForwardOnly : Obligations.CalibrationMovesForwardOnly := by
  intro i s t hreset hboot h
  obtain ⟨hmax, hmin, hstate, _⟩ := exec_movesForward hreset hboot h
  exact ⟨hmax, hmin .ch0, hmin .ch1, hstate⟩

/-! ### The calibration invariants (R90 d, e) -/

/-- R90 (d): a recorded minimum is at most its maximum. -/
def ExtremesOrdered (s : State) : Prop :=
  ∀ c : Ch, lowSeen c s.calState = true → s.cmin.get c ≤ s.cmax.get c

/-- R90 (e): the counter is within the bound of the kind of state. -/
structure CounterBounded (s : State) : Prop where
  stability : calKind s.calState = .high ∨ calKind s.calState = .low →
    s.calCnt.toNat ≤ s.params.calThresh.val
  wait : calKind s.calState = .wait → s.calCnt.toNat < s.params.calWait

theorem ExtremesOrdered.movesForward {s t : State} (hs : ExtremesOrdered s) (h : MovesForward s t) :
    ExtremesOrdered t := by
  intro c hafter
  cases hbefore : lowSeen c s.calState with
  | true => exact BitVec.le_trans (h.min_le c hbefore) (BitVec.le_trans (hs c hbefore) (h.max_le c))
  | false => exact h.starts_at_max c hbefore hafter ▸ BitVec.le_refl _

theorem counterBounded_of_zero {s : State} (h : s.calCnt = 0#16) : CounterBounded s where
  stability _ := by rw [h]; exact Nat.zero_le _
  wait _ := by rw [h]; exact (calWait_bounds s.params).1

theorem counterBounded_of_stable {s t : State}
    (hkind : calKind t.calState = .high ∨ calKind t.calState = .low)
    (hcnt : t.calCnt = s.calCnt + 1#16) (hbound : s.calCnt.toNat + 1 ≤ t.params.calThresh.val) :
    CounterBounded t where
  stability _ := by rwa [hcnt, toNat_add_one_of_le hbound (calThresh_le _)]
  wait hwait := by simp [hwait] at hkind

theorem counterBounded_of_waiting {s t : State} (hkind : calKind t.calState = .wait)
    (hcnt : t.calCnt = s.calCnt + 1#16) (hbound : s.calCnt.toNat + 1 < t.params.calWait) :
    CounterBounded t where
  stability hst := by simp [hkind] at hst
  wait _ := by rwa [hcnt, toNat_add_one_of_le hbound.le (calWait_bounds _).2]

/-- R84 to R86: a sample clears the counter, or increments it within the bound of the state it stays in. -/
theorem calSampleOp_counterBounded (c : Ch) (w : Word) {s : State} (hs : CounterBounded s) :
    CounterBounded (calSampleOp c w s) := by
  rcases calSampleOp_cases c w s with ⟨_, h⟩ | ⟨_, _, _, h⟩ | ⟨_, hstable, hcnt, h⟩ | ⟨_, _, _, _, h⟩ |
    ⟨_, _, _, h⟩ | ⟨_, _, _, _, h⟩ | ⟨_, _, _, _, h⟩ | ⟨_, hkind, hcnt, h⟩ | ⟨_, _, _, h⟩ <;> rw [h]
  · exact hs
  · exact counterBounded_of_zero rfl
  · exact counterBounded_of_stable (s := s) (hstable.imp And.left And.left) rfl (Nat.not_lt.1 hcnt)
  · exact counterBounded_of_zero rfl
  · exact counterBounded_of_zero rfl
  · exact counterBounded_of_zero rfl
  · exact counterBounded_of_zero rfl
  · exact counterBounded_of_waiting (s := s) hkind rfl (Nat.not_le.1 hcnt)
  · exact counterBounded_of_zero rfl

theorem eq_c1Low_of_calNext_eq_done {st : CalState} (h : calNext st = .done) (hst : st ≠ .done) :
    st = .c1Low := by
  cases st with
  | c1Low => rfl
  | done => exact absurd rfl hst
  | _ => cases h

/-- R81, R85: `DONE` is entered by the sample that completes `C1_LOW`. -/
theorem calSampleOp_of_enters_done {c : Ch} {w : Word} {s : State} (hst : s.calState ≠ .done)
    (hdone : (calSampleOp c w s).calState = .done) :
    s.calState = .c1Low ∧ calSampleOp c w s = finish { s with calCnt := 0#16 } := by
  have hmoved : (calSampleOp c w s).calState ≠ s.calState := fun hsame => hst (hsame.symm.trans hdone)
  have hnext := (calSampleOp_movesForward c w s).next_state.resolve_left hmoved
  have hlow := eq_c1Low_of_calNext_eq_done (hnext.symm.trans hdone) hst
  refine ⟨hlow, ?_⟩
  have hkind : calKind s.calState = .low := by rw [hlow]; rfl
  by_cases hc : c = calActive s.calState
  swap
  · exact absurd (congrArg State.calState (calSampleOp_of_inactive w (.inr hc))) hmoved
  by_cases hw : w < s.cmin.get c
  · exact absurd (congrArg State.calState (calSampleOp_of_lt_cmin hkind hc hw)) hmoved
  by_cases hcnt : s.calCnt.toNat + 1 ≤ s.params.calThresh.val
  · exact absurd (congrArg State.calState (calSampleOp_of_stable (.inr ⟨hkind, hw⟩) hc hcnt)) hmoved
  rw [hlow] at hc
  subst hc
  exact calSampleOp_of_completed hlow hw (Nat.not_le.1 hcnt)

/-- R87: what Finish derives from ordered extremes is ordered. -/
theorem recordOrdered_finish {s : State} (hmax0 : s.cmin.c0 ≤ s.cmax.c0) (hmax1 : s.cmin.c1 ≤ s.cmax.c1) :
    RecordOrdered (finish s) where
  min_le_mid0 := (midPoint_mem hmax0).1
  mid_le_max0 := (midPoint_mem hmax0).2
  min_le_mid1 := (midPoint_mem hmax1).1
  mid_le_max1 := (midPoint_mem hmax1).2
  min_le_thr := (lowThrottle_mem hmax0).1
  thr_le_max := (lowThrottle_mem hmax0).2

theorem CalibrationInv.extremesOrdered {s : State} (hs : CalibrationInv s) : ExtremesOrdered s
  | .ch0 => hs.min_le_max0
  | .ch1 => hs.min_le_max1

theorem RecordOrdered.of_view_eq {s t : State} (hs : RecordOrdered s)
    (hview : calibrationView t = calibrationView s) : RecordOrdered t := by
  obtain ⟨_, _, _, _, hmin, hmax, hmid, hthr, _⟩ := calibrationView_eq_iff.1 hview
  obtain ⟨hmid0, hmax0, hmid1, hmax1, hthr0, hthr1⟩ := hs
  constructor <;> simpa only [hmin, hmax, hmid, hthr]

/-- The invariant reads nothing outside the view. -/
theorem CalibrationInv.of_view_eq {s t : State} (hs : CalibrationInv s)
    (hview : calibrationView t = calibrationView s) : CalibrationInv t := by
  obtain ⟨heng, hstate, hcnt, _, hmin, hmax, _, _, hparams⟩ := calibrationView_eq_iff.1 hview
  obtain ⟨hboot, hmax0, hmax1, hstability, hwait, hdone⟩ := hs
  rw [← hstate] at hboot hmax0 hmax1 hstability hwait hdone
  rw [← heng] at hboot
  rw [← hmin, ← hmax] at hmax0 hmax1
  rw [← hcnt, ← hparams] at hstability hwait
  exact ⟨hboot, hmax0, hmax1, hstability, hwait, fun h => (hdone h).of_view_eq hview⟩

/-- In `C0_HIGH` no minimum is recorded and nothing is derived. -/
theorem calibrationInv_of_c0High {s : State} (hst : s.calState = .c0High)
    (hcnt : s.calCnt.toNat ≤ s.params.calThresh.val) : CalibrationInv s where
  fresh_before_boot _ := hst
  min_le_max0 h := by rw [hst] at h; cases h
  min_le_max1 h := by rw [hst] at h; cases h
  stability_bound _ := hcnt
  wait_bound h := by rw [hst] at h; cases h
  done_ordered h := by rw [hst] at h; cases h

theorem calibrationInv_calSampleOp (c : Ch) (w : Word) {s : State} (hs : CalibrationInv s)
    (hcal : isCalibrating s = true) : CalibrationInv (calSampleOp c w s) := by
  have hord := hs.extremesOrdered.movesForward (calSampleOp_movesForward c w s)
  have hbounded := calSampleOp_counterBounded c w ⟨hs.stability_bound, hs.wait_bound⟩
  refine ⟨fun hpreboot => ?_, hord .ch0, hord .ch1, hbounded.stability, hbounded.wait, fun hdone => ?_⟩
  · have heng : (calSampleOp c w s).engSt = s.engSt := (congrArg State.engSt (calSampleOp_frame c w s) :)
    obtain ⟨hactive, _⟩ := (isCalibrating_iff s).1 hcal
    rw [heng, hactive] at hpreboot
    cases hpreboot
  · by_cases hst : s.calState = .done
    · rw [calSampleOp_of_inactive w (.inl hst)]
      exact hs.done_ordered hst
    · obtain ⟨hlow, hfinish⟩ := calSampleOp_of_enters_done hst hdone
      rw [hfinish]
      exact recordOrdered_finish (s := { s with calCnt := 0#16 }) (hs.min_le_max0 (by rw [hlow]; rfl))
        (hs.min_le_max1 (by rw [hlow]; rfl))

theorem exec_boot_of_ne_preboot (j : Bool) {s : State} (h : s.engSt ≠ .preboot) :
    exec (.boot j) s = .next s := congrArg Host.Outcome.next (if_neg h)

/-- BOOT has an effect only before calibration has begun. -/
theorem calibrationInv_exec_boot (j : Bool) {s t : State} (hs : CalibrationInv s)
    (h : exec (.boot j) s = .next t) : CalibrationInv t := by
  by_cases hpreboot : s.engSt = .preboot
  · have hst := hs.fresh_before_boot hpreboot
    have hcnt := hs.stability_bound (.inl (by rw [hst]; rfl))
    rw [exec_boot_frame j h]
    exact calibrationInv_of_c0High hst hcnt
  · cases (exec_boot_of_ne_preboot j hpreboot).symm.trans h
    exact hs

theorem calibrationInv_exec {i : Instr} {s t : State} (hs : CalibrationInv s) (h : exec i s = .next t) :
    CalibrationInv t := by
  by_cases hreset : i = .reset
  · subst hreset
    rw [exec_reset_frame h]
    exact calibrationInv_of_c0High rfl (Nat.zero_le _)
  by_cases hboot : ∃ j : Bool, i = .boot j
  · obtain ⟨j, rfl⟩ := hboot
    exact calibrationInv_exec_boot j hs h
  rcases exec_calibration_cases hreset (not_exists.1 hboot) h with hview | ⟨c, w, u, hview, hcal, rfl⟩
  · exact hs.of_view_eq hview
  · exact calibrationInv_calSampleOp c w (hs.of_view_eq hview) hcal

/-- Settles O32: the invariant reads no byte of the stream, and every operation keeps it. -/
theorem stepKeepsCalibrationBounds : Obligations.StepKeepsCalibrationBounds := by
  intro s t hs h
  obtain ⟨i, rest, _, hexec⟩ := exists_exec_of_step h
  exact calibrationInv_exec (s := { s with stream := rest }) (hs.of_view_eq rfl) hexec

end Sys2Proof.Machine
end

section
/-! PROOFS. The Channel Transform (spec 44_transform.md): the function Transform (R91) with its range and its
symmetry (R94), and the two operations that hand its results to SetW (R92, R93). -/

namespace Sys2Proof.Machine

/-! ### The clamp (R9) -/

/-- What lies between two words is itself a word, so taking 16 bits of it loses nothing. -/
theorem toNat_clamp (x : Int) (lo hi : Word) :
    ((clamp x lo hi).toNat : Int) =
      if x < lo.toNat then (lo.toNat : Int) else if x > hi.toNat then (hi.toNat : Int) else x := by
  unfold clamp
  split
  · rfl
  · split
    · rfl
    · have hword := hi.isLt
      rw [BitVec.toNat_ofInt]
      omega

theorem clamp_mem (x : Int) {lo hi : Word} (h : lo ≤ hi) : lo ≤ clamp x lo hi ∧ clamp x lo hi ≤ hi := by
  have hclamp := toNat_clamp x lo hi
  rw [BitVec.le_def] at h
  rw [BitVec.le_def, BitVec.le_def]
  split at hclamp
  · omega
  · split at hclamp <;> omega

theorem clamp_of_mem {p lo hi : Word} (hlo : lo ≤ p) (hhi : p ≤ hi) : clamp p.toNat lo hi = p := by
  rw [BitVec.le_def] at hlo hhi
  have hclamp := toNat_clamp p.toNat lo hi
  rw [if_neg (by omega), if_neg (by omega)] at hclamp
  exact BitVec.eq_of_toNat_eq (Int.ofNat_inj.1 hclamp)

/-! ### The function Transform (R91, R94) -/

/-- What Transform adds to the primary width for the first output and subtracts for the second: nothing
below the low-throttle threshold. -/
def mixOffset (s : State) (p q : Word) : Int := if p < s.thr then 0 else halfOffset q s.cmid.c1

theorem mixOffset_of_lt {s : State} {p : Word} (q : Word) (h : p < s.thr) : mixOffset s p q = 0 := if_pos h

theorem mixOffset_of_not_lt {s : State} {p : Word} (q : Word) (h : ¬p < s.thr) :
    mixOffset s p q = halfOffset q s.cmid.c1 := if_neg h

/-- R91, with one equation for the two sides of the threshold. -/
theorem transformOf_eq (s : State) (p q : Word) :
    transformOf s p q =
      (clamp (p.toNat + mixOffset s p q) s.cmin.c0 s.cmax.c0,
        clamp (p.toNat - mixOffset s p q) s.cmin.c0 s.cmax.c0) := by
  unfold transformOf transform
  split
  · rw [mixOffset_of_lt q ‹_›, Int.add_zero, Int.sub_zero]
  · rw [mixOffset_of_not_lt q ‹_›]

/-- R94 (b). -/
theorem transformOf_of_lt {s : State} {p : Word} (q : Word) (h : p < s.thr) :
    transformOf s p q = (clamp p.toNat s.cmin.c0 s.cmax.c0, clamp p.toNat s.cmin.c0 s.cmax.c0) := by
  rw [transformOf_eq, mixOffset_of_lt q h, Int.add_zero, Int.sub_zero]

/-- Settles O33: the two results are clamps, of the primary width alone below the threshold. -/
theorem transformMixesAndClamps : Obligations.TransformMixesAndClamps := by
  intro s p q
  by_cases hp : p < s.thr
  · simp only [transformOf_of_lt q hp, toNat_clamp, if_pos (BitVec.lt_def.1 hp), and_self]
  · simp only [transformOf_eq, mixOffset_of_not_lt q hp, halfOffset, toNat_clamp,
      if_neg (mt BitVec.lt_def.2 hp), and_self]

/-- R9, R94 (f): halving rounds toward zero on both sides, so mirrored secondaries have opposite offsets. -/
theorem halfOffset_of_mirrored {q q' mid : Word} (h : q.toNat + q'.toNat = 2 * mid.toNat) :
    halfOffset q' mid = -halfOffset q mid := by
  have hmirror : (q'.toNat : Int) - mid.toNat = -((q.toNat : Int) - mid.toNat) := by omega
  rw [halfOffset, halfOffset, hmirror, Int.neg_tdiv]

theorem mixOffset_of_mirrored {s : State} {q q' : Word} (p : Word)
    (h : q.toNat + q'.toNat = 2 * s.cmid.c1.toNat) : mixOffset s p q' = -mixOffset s p q := by
  by_cases hp : p < s.thr
  · rw [mixOffset_of_lt q' hp, mixOffset_of_lt q hp, Int.neg_zero]
  · rw [mixOffset_of_not_lt q' hp, mixOffset_of_not_lt q hp, halfOffset_of_mirrored h]

/-- R94 (f): mirrored secondaries swap the outputs. -/
theorem transformOf_of_mirrored {s : State} {q q' : Word} (p : Word)
    (h : q.toNat + q'.toNat = 2 * s.cmid.c1.toNat) : transformOf s p q' = (transformOf s p q).swap := by
  rw [transformOf_eq, transformOf_eq, mixOffset_of_mirrored p h, ← sub_eq_add_neg, sub_neg_eq_add,
    Prod.swap_prod_mk]

/-- Settles O34, by the range of a clamp and the mirrored offset. -/
theorem transformIsBoundedAndAntisymmetric : Obligations.TransformIsBoundedAndAntisymmetric := by
  intro s p hordered
  refine ⟨fun q => ?_, fun q hp => ?_, fun q q' hmirror => ?_⟩
  · rw [transformOf_eq]
    obtain ⟨hlo₀, hhi₀⟩ := clamp_mem (p.toNat + mixOffset s p q) hordered
    obtain ⟨hlo₁, hhi₁⟩ := clamp_mem (p.toNat - mixOffset s p q) hordered
    exact ⟨hlo₀, hhi₀, hlo₁, hhi₁⟩
  · rw [transformOf_of_lt q hp]
    exact ⟨rfl, clamp_of_mem⟩
  · rw [transformOf_of_mirrored p hmirror, Prod.snd_swap]

/-! ### The step that MIX and XFORM share (R92, R93, R102) -/

theorem isRunning_iff (s : State) : isRunning s = true ↔ s.engSt = .active ∧ s.mode = .running := by
  simp [isRunning]

theorem not_isRunning_iff (s : State) :
    isRunning s = false ↔ s.engSt ≠ .active ∨ s.mode = .calibrating := by
  cases hmode : s.mode <;> simp [isRunning, hmode]

/-- The sum of the two results of Transform, which SetW compares with the period. -/
def transformSum (s : State) (p q : Word) : Nat :=
  (transformOf s p q).1.toNat + (transformOf s p q).2.toNat

theorem mixOp_of_fits {s : State} {p q : Word} (h : transformSum s p q ≤ Config.outPeriod) :
    mixOp p q s =
      { s with fresh := .both false, nw := ⟨(transformOf s p q).1, (transformOf s p q).2⟩ } :=
  if_neg (Nat.not_lt.2 h)

theorem mixOp_of_exceeds {s : State} {p q : Word} (h : transformSum s p q > Config.outPeriod) :
    mixOp p q s = { s with fresh := .both false, flt := s.flt ||| 0b100#3 } :=
  if_pos h

theorem mixOp_fresh (p q : Word) (s : State) : (mixOp p q s).fresh = .both false := setW_fresh _ _ _

theorem mixOp_nvm (p q : Word) (s : State) : (mixOp p q s).nvm = s.nvm := setW_nvm _ _ _

theorem mixOp_chv (p q : Word) (s : State) : (mixOp p q s).chv = s.chv := setW_chv _ _ _

/-- R102: both results requested, or neither and the fault raised. -/
theorem mixOp_request (p q : Word) (s : State) :
    (transformSum s p q ≤ Config.outPeriod →
      (mixOp p q s).nw.c0 = (transformOf s p q).1 ∧ (mixOp p q s).nw.c1 = (transformOf s p q).2 ∧
      (mixOp p q s).flt = s.flt) ∧
    (transformSum s p q > Config.outPeriod →
      (mixOp p q s).nw = s.nw ∧ (mixOp p q s).flt = s.flt ||| 0b100#3) := by
  constructor <;> intro hsum
  · rw [mixOp_of_fits hsum]
    exact ⟨rfl, rfl, rfl⟩
  · rw [mixOp_of_exceeds hsum]
    exact ⟨rfl, rfl⟩

/-! ### The two operations (R92, R93) -/

theorem exec_mix_of_enabled {s : State} (hrun : isRunning s = true) (h0 : s.fresh.c0 = true)
    (h1 : s.fresh.c1 = true) : exec .mix s = .next (mixOp s.chv.c0 s.chv.c1 s) := by
  simp [exec, execMix, hrun, h0, h1]

theorem exec_mix_of_disabled {s : State}
    (h : isRunning s = false ∨ s.fresh.c0 = false ∨ s.fresh.c1 = false) : exec .mix s = .next s := by
  rcases h with h | h | h <;> simp [exec, execMix, h]

/-- The state in which the widths `p` and `q` are held (R93). -/
def State.withWidths (p q : Word) (s : State) : State := { s with chv := { c0 := p, c1 := q } }

theorem exec_xform_of_running {s : State} (p q : Word) (hrun : isRunning s = true) :
    exec (.xform p q) s = .next (mixOp p q (s.withWidths p q)) :=
  congrArg Host.Outcome.next (if_pos hrun)

theorem exec_xform_of_not_running {s : State} (p q : Word) (hrun : isRunning s = false) :
    exec (.xform p q) s = .next s :=
  congrArg Host.Outcome.next (if_neg (Bool.eq_false_iff.1 hrun))

/-- R93: MIX clears the two freshness flags that the injection has set. -/
theorem exec_mix_of_injected {s : State} (p q : Word) (hrun : isRunning s = true) :
    exec .mix { s with chv := { c0 := p, c1 := q }, fresh := { c0 := true, c1 := true } } =
      .next (mixOp p q (s.withWidths p q)) :=
  exec_mix_of_enabled hrun rfl rfl

/-- Settles O36: the injected widths reach the step that MIX performs, and Transform does not read them
from the state. -/
theorem xformTransformsImmediateWidths : Obligations.XformTransformsImmediateWidths := by
  refine ⟨fun _ _ => spells_of_encode_eq rfl rfl, fun _ _ => rfl, ?_, ?_⟩
  · intro p q s hactive hmode
    have hrun := (isRunning_iff s).2 ⟨hactive, hmode⟩
    have hxform := exec_xform_of_running p q hrun
    have hchv := mixOp_chv p q (s.withWidths p q)
    have hfresh := mixOp_fresh p q (s.withWidths p q)
    exact ⟨_, hxform, exec_mix_of_injected p q hrun, congrArg Chan.c0 hchv, congrArg Chan.c1 hchv,
      congrArg Chan.c0 hfresh, congrArg Chan.c1 hfresh, exec_xform_frame p q hxform,
      mixOp_request p q (s.withWidths p q)⟩
  · intro p q s hdisabled
    exact exec_xform_of_not_running p q ((not_isRunning_iff s).2 hdisabled)

/-- Settles O35, by the frame of MIX and the request that the shared step makes. -/
theorem mixTransformsTheFreshWidths : Obligations.MixTransformsTheFreshWidths := by
  refine ⟨spells_of_encode_eq rfl rfl, rfl, ?_, ?_⟩
  · intro s hactive hmode h0 h1
    have hmix := exec_mix_of_enabled ((isRunning_iff s).2 ⟨hactive, hmode⟩) h0 h1
    have hfresh := mixOp_fresh s.chv.c0 s.chv.c1 s
    exact ⟨_, hmix, congrArg Chan.c0 hfresh, congrArg Chan.c1 hfresh, exec_mix_frame hmix,
      fun a => congrArg (nvmRead · a) (mixOp_nvm _ _ s), mixOp_request _ _ s⟩
  · intro s hdisabled
    refine exec_mix_of_disabled ?_
    rwa [not_isRunning_iff, or_assoc]

end Sys2Proof.Machine
end

section
/-! PROOFS. The Output Generator (spec 45_output_generator.md): the operations of the output timer (R96,
R100), Program (R97), EnterStage and Expire (R98, R99) with the operations that reach them (R101, R104), where
the widths change (R102, R108), the generator's invariant (R107), and the period under prompt service
(R106). -/

namespace Sys2Proof.Machine

/-! ### TICK_OUT (R96) -/

/-- The state after an output tick, but for the fault. -/
def State.ticked (s : State) : State :=
  { s with
    tcnt1 := s.tcnt1 + 1#8
    tov1 := s.tov1 || counterWrapped (s.tcnt1 + 1#8)
    ocf1 := s.ocf1 || compareMatched (s.tcnt1 + 1#8) s.ocr1 }

/-- R96, R118: the next tick of the running generator wraps the counter and matches the compare value. -/
def TicksIntoHazard (s : State) : Prop :=
  s.tcnt1 + 1#8 = 0#8 ∧ s.tcnt1 + 1#8 = s.ocr1 ∧ s.run = true

theorem exec_tickOut_of_hazard {s : State} (h : TicksIntoHazard s) :
    exec .tickOut s = .next (raiseFault .outputHazard s.ticked) := by
  obtain ⟨hwrap, hmatch, hrun⟩ := h
  exact congrArg Host.Outcome.next
    (if_pos (by simp [counterWrapped, compareMatched, hrun, ← hmatch, hwrap]))

theorem exec_tickOut_of_no_hazard {s : State} (h : ¬TicksIntoHazard s) :
    exec .tickOut s = .next s.ticked :=
  congrArg Host.Outcome.next (if_neg (by simpa [counterWrapped, compareMatched, TicksIntoHazard] using h))

theorem not_ticksIntoHazard_of_ocr1_pos {s : State} (h : 0 < s.ocr1.toNat) : ¬TicksIntoHazard s := by
  rintro ⟨hwrap, hmatch, _⟩
  rw [← hmatch, hwrap] at h
  exact absurd h (by decide)

theorem counterWrapped_eq_decide (count : Byte) : counterWrapped count = decide (count.toNat = 0) := by
  rw [Bool.eq_iff_iff, counterWrapped, beq_iff_eq, decide_eq_true_iff, ← BitVec.toNat_inj]
  rfl

theorem ticked_flags (s : State) :
    s.ticked.tov1 = (s.tov1 || decide (s.ticked.tcnt1.toNat = 0)) ∧
    s.ticked.ocf1 = (s.ocf1 || decide (s.ticked.tcnt1 = s.ocr1)) :=
  ⟨congrArg (s.tov1 || ·) (counterWrapped_eq_decide _), congrArg (s.ocf1 || ·) (beq_eq_decide _ _)⟩

/-- Settles O37: the two outcomes of the tick differ in the fault alone. -/
theorem tickOutCountsAndFlags : Obligations.TickOutCountsAndFlags := by
  refine ⟨spells_of_encode_eq rfl rfl, rfl, fun s => ?_⟩
  have hcount : s.ticked.tcnt1.toNat = (s.tcnt1.toNat + 1) % 256 := BitVec.toNat_add _ _
  obtain ⟨htov, hocf⟩ := ticked_flags s
  by_cases hz : TicksIntoHazard s
  · have hexec := exec_tickOut_of_hazard hz
    obtain ⟨hwrap, hmatch, hrun⟩ := hz
    refine ⟨_, hexec, hcount, htov, hocf, fun _ => rfl, fun hno => ?_, rfl, fun _ => rfl⟩
    rcases hno with hno | hno | hno
    · exact absurd (congrArg BitVec.toNat hwrap) hno
    · exact absurd hmatch hno
    · exact absurd hrun (Bool.eq_false_iff.1 hno)
  · refine ⟨_, exec_tickOut_of_no_hazard hz, hcount, htov, hocf, fun hyes => ?_, fun _ => rfl, rfl,
      fun _ => rfl⟩
    obtain ⟨hwrap, hmatch, hrun⟩ := hyes
    exact absurd ⟨BitVec.eq_of_toNat_eq hwrap, hmatch, hrun⟩ hz

/-! ### OVF1_SVC (R100) -/

theorem exec_ovf1Svc_of_not_eligible {s : State} (h : eligible s .outputOverflow = false) :
    exec .ovf1Svc s = .next s :=
  congrArg Host.Outcome.next (takeInterrupt_of_not_eligible _ h)

/-- The last lap before the final one is over: the compare is armed. -/
theorem exec_ovf1Svc_of_arming {s : State} (h : eligible s .outputOverflow = true) (hhi : s.hi1 = 1#8) :
    exec .ovf1Svc s = .next { s with tov1 := false, hi1 := 0#8, ocf1 := false, ocie1 := true } := by
  refine congrArg Host.Outcome.next ((takeInterrupt_of_eligible _ h).trans ?_)
  simp [clearPending, hhi]

/-- An earlier lap is over. -/
theorem exec_ovf1Svc_of_lap {s : State} (h : eligible s .outputOverflow = true) (h0 : s.hi1 ≠ 0#8)
    (h1 : s.hi1 ≠ 1#8) :
    exec .ovf1Svc s = .next { s with tov1 := false, hi1 := s.hi1 - 1#8 } := by
  refine congrArg Host.Outcome.next ((takeInterrupt_of_eligible _ h).trans ?_)
  have hne : s.hi1 - 1#8 ≠ 0#8 := by bv_omega
  simp [clearPending, h0, hne]

/-- An overflow during the final lap, CMP1_SVC being late. -/
theorem exec_ovf1Svc_of_final_lap {s : State} (h : eligible s .outputOverflow = true) (h0 : s.hi1 = 0#8) :
    exec .ovf1Svc s = .next { s with tov1 := false } := by
  refine congrArg Host.Outcome.next ((takeInterrupt_of_eligible _ h).trans ?_)
  simp [clearPending, h0]

/-- Settles O38: the four conditions are eligibility, and the high byte decides the rest. -/
theorem ovf1SvcCountsDownAndArms : Obligations.Ovf1SvcCountsDownAndArms := by
  refine ⟨spells_of_encode_eq rfl rfl, rfl, ?_, ?_⟩
  · intro s hie htoie htov hidle
    have helig := (eligible_iff s .outputOverflow).2 ⟨hie, htoie, htov, hidle⟩
    by_cases h1 : s.hi1 = 1#8
    · have hone : s.hi1.toNat = 1 := congrArg BitVec.toNat h1
      exact ⟨_, exec_ovf1Svc_of_arming helig h1, rfl, by rw [hone]; rfl, fun _ => ⟨rfl, rfl⟩,
        fun hne => absurd hone hne, rfl, fun _ => rfl⟩
    · have hone : s.hi1.toNat ≠ 1 := fun hone => h1 (BitVec.eq_of_toNat_eq hone)
      by_cases h0 : s.hi1 = 0#8
      · exact ⟨_, exec_ovf1Svc_of_final_lap helig h0, rfl, by rw [h0]; rfl, fun h => absurd h hone,
          fun _ => ⟨rfl, rfl⟩, rfl, fun _ => rfl⟩
      · exact ⟨_, exec_ovf1Svc_of_lap helig h0 h1, rfl, by bv_omega, fun h => absurd h hone,
          fun _ => ⟨rfl, rfl⟩, rfl, fun _ => rfl⟩
  · intro s hdisabled
    exact exec_ovf1Svc_of_not_eligible ((not_eligible_iff s .outputOverflow).2 hdisabled)

/-! ### SET_WIDTHS, OUT_CFG, OUT_POLL (R102, R103, R105) -/

theorem exec_setWidths_of_running (a b : Word) {s : State} (h : isRunning s = true) :
    exec (.setWidths a b) s = .next (setW a b s) :=
  congrArg Host.Outcome.next (if_pos h)

theorem exec_setWidths_of_not_running (a b : Word) {s : State} (h : isRunning s = false) :
    exec (.setWidths a b) s = .next s :=
  congrArg Host.Outcome.next (if_neg (Bool.eq_false_iff.1 h))

/-- Settles O42: enabled, the operation is SetW. -/
theorem setWidthsRequestsBothWidths : Obligations.SetWidthsRequestsBothWidths := by
  refine ⟨fun _ _ => spells_of_encode_eq rfl rfl, fun _ _ => rfl, ?_, ?_⟩
  · intro a b s hactive hmode
    rw [exec_setWidths_of_running a b ((isRunning_iff s).2 ⟨hactive, hmode⟩)]
    exact ⟨fun hfits => congrArg Host.Outcome.next (if_neg (Nat.not_lt.2 hfits)),
      fun hexceeds => congrArg Host.Outcome.next (if_pos hexceeds)⟩
  · intro a b s hdisabled
    exact exec_setWidths_of_not_running a b ((not_isRunning_iff s).2 hdisabled)

/-- Settles O43: each is one assignment without a condition. -/
theorem outCfgAndOutPollAct : Obligations.OutCfgAndOutPollAct :=
  ⟨spells_of_encode_eq rfl rfl, spells_of_encode_eq rfl rfl, spells_of_encode_eq rfl rfl, fun _ => rfl, rfl,
    fun _ _ => rfl, fun _ => rfl⟩

/-! ### Program (R97) -/

/-- A value is its high byte's laps and its low byte. -/
theorem toNat_eq_bytes (d : Word) : d.toNat = 256 * (highByte d).toNat + (lowByte d).toNat := by
  rw [toNat_highByte, toNat_lowByte]
  omega

/-- R97: the margin by which the counter starts ahead is added to the compare value as well. -/
theorem toNat_program_ocr1 (d : Word) (s : State) :
    (program d s).ocr1.toNat = (lowByte d).toNat + (program d s).tcnt1.toNat := by
  by_cases hlow : (lowByte d).toNat < s.params.outMargin
  · obtain ⟨htcnt, hocr⟩ := program_biased hlow
    rw [hocr, htcnt]
  · obtain ⟨htcnt, hocr⟩ := program_unbiased (Nat.not_lt.1 hlow)
    rw [hocr, htcnt]
    rfl

theorem eq_zero_iff_toNat_eq_zero {n : Nat} (x : BitVec n) : x = 0#n ↔ x.toNat = 0 := by
  rw [← BitVec.toNat_inj, BitVec.toNat_ofNat, Nat.zero_mod]

/-- Settles O39, on either side of the margin. -/
theorem programTimesTheStageBeyondTheMargin : Obligations.ProgramTimesTheStageBeyondTheMargin := by
  intro d s _
  have hocr := toNat_program_ocr1 d s
  have hd := toNat_eq_bytes d
  refine ⟨fun hlow => ?_, program_biased, rfl, rfl, rfl, ?_, margin_le_program_ocr1 d s, ?_, ?_, rfl⟩
  · obtain ⟨htcnt, hocr⟩ := program_unbiased hlow
    exact ⟨congrArg BitVec.toNat htcnt, congrArg BitVec.toNat hocr⟩
  · rw [program_ocie1, beq_eq_decide]
    exact decide_eq_decide.2 (eq_zero_iff_toNat_eq_zero _)
  · omega
  · rw [program_hi1]
    omega

/-! ### EnterStage without its bound (R98) -/

/-- `Dur(s)` as EnterStage finds it, once the stage is open. -/
def entryDuration (st : Stage) (s : State) : Word := duration st (openStage st s)

/-- A stage that expires in the operation that enters it. -/
def skipStage (st : Stage) (s : State) : State := closeStage st { openStage st s with ocie1 := false }

/-- R99: the end of Stage0 lowers `OUT[0]`, and raises `OUT[1]` where channel 1 is driven. -/
theorem closeStage_stage0 (s : State) :
    closeStage .stage0 s = { s with out := { c0 := false, c1 := s.ch1En || s.out.c1 } } := by
  cases h : s.ch1En <;> simp [closeStage, h]

/-- R98, R99: a Stage0 of no length has latched the widths of the new period all the same. -/
theorem skipStage_stage0 (s : State) :
    skipStage .stage0 s =
      { s with stage := .stage0, w := s.nw, ocie1 := false
               out := { c0 := false, c1 := s.ch1En || s.out.c1 } } :=
  closeStage_stage0 _

theorem entryDuration_stage1_skipStage_stage0 (s : State) :
    entryDuration .stage1 (skipStage .stage0 s) = s.nw.c1 := by
  rw [skipStage_stage0]; rfl

/-- R98: entering `st` in `s` passes `n` stages of no length and ends in `t`, by programming the timer for
the stage after them. -/
inductive EntersAfter : Nat → Stage → State → State → Prop where
  | programmed {st : Stage} {s : State} (h : entryDuration st s ≠ 0#16) :
      EntersAfter 0 st s (program (entryDuration st s) (openStage st s))
  | skipped {n : Nat} {st : Stage} {s t : State} (h : entryDuration st s = 0#16)
      (hnext : EntersAfter n st.next (skipStage st s) t) : EntersAfter (n + 1) st s t

/-- EnterStage computes the relation wherever its bound is not used up. -/
theorem EntersAfter.enterStage_eq {n : Nat} {st : Stage} {s t : State} (h : EntersAfter n st s t) {m : Nat}
    (hm : n < m) : enterStage m st s = t := by
  induction h generalizing m with
  | programmed h =>
    obtain ⟨m, rfl⟩ := Nat.exists_eq_add_of_lt hm
    exact (enterStage_succ _ _ _).trans (if_neg h)
  | skipped h _ ih =>
    cases m with
    | zero => omega
    | succ m => exact ((enterStage_succ _ _ _).trans (if_pos h)).trans (ih (by omega))

/-- R95: the idle remainder has no length exactly where the two widths fill the period. -/
theorem entryDuration_stage2_eq_zero_iff (s : State) :
    entryDuration .stage2 s = 0#16 ↔ Config.outPeriod ≤ s.w.c0.toNat + s.w.c1.toNat := by
  simp only [entryDuration, duration, openStage, Config.outPeriod, eq_zero_iff_toNat_eq_zero,
    BitVec.toNat_ofNat]
  omega

/-- A period whose two widths are 0 is idle for its whole length. -/
theorem entryDuration_stage2_of_widths_zero {s : State} (h0 : s.nw.c0 = 0#16) (h1 : s.nw.c1 = 0#16) :
    entryDuration .stage2 (skipStage .stage1 (skipStage .stage0 s)) ≠ 0#16 := by
  rw [skipStage_stage0, Ne, entryDuration_stage2_eq_zero_iff]
  simp [skipStage, openStage, h0, h1, Config.outPeriod]

theorem exists_entersAfter_stage0 (s : State) : ∃ n t, n < 3 ∧ EntersAfter n .stage0 s t := by
  have hw1 := entryDuration_stage1_skipStage_stage0 s
  by_cases h0 : entryDuration .stage0 s = 0#16
  · by_cases h1 : entryDuration .stage1 (skipStage .stage0 s) = 0#16
    · exact ⟨2, _, by omega,
        .skipped h0 (.skipped h1 (.programmed (entryDuration_stage2_of_widths_zero h0 (hw1 ▸ h1))))⟩
    · exact ⟨1, _, by omega, .skipped h0 (.programmed h1)⟩
  · exact ⟨0, _, by omega, .programmed h0⟩

theorem exists_entersAfter_stage2 (s : State) : ∃ n t, n < 4 ∧ EntersAfter n .stage2 s t := by
  by_cases h : entryDuration .stage2 s = 0#16
  · obtain ⟨n, t, hn, ht⟩ := exists_entersAfter_stage0 (skipStage .stage2 s)
    exact ⟨n + 1, t, by omega, .skipped h ht⟩
  · exact ⟨0, _, by omega, .programmed h⟩

theorem exists_entersAfter_stage1 (s : State) : ∃ n t, n < 5 ∧ EntersAfter n .stage1 s t := by
  by_cases h : entryDuration .stage1 s = 0#16
  · obtain ⟨n, t, hn, ht⟩ := exists_entersAfter_stage2 (skipStage .stage1 s)
    exact ⟨n + 1, t, by omega, .skipped h ht⟩
  · exact ⟨0, _, by omega, .programmed h⟩

/-- R98: five calls are enough from every stage. -/
theorem exists_entersAfter (st : Stage) (s : State) : ∃ n t, n < stageDepth ∧ EntersAfter n st s t := by
  unfold stageDepth
  cases st with
  | stage0 =>
    obtain ⟨n, t, hn, ht⟩ := exists_entersAfter_stage0 s
    exact ⟨n, t, by omega, ht⟩
  | stage1 => exact exists_entersAfter_stage1 s
  | stage2 =>
    obtain ⟨n, t, hn, ht⟩ := exists_entersAfter_stage2 s
    exact ⟨n, t, by omega, ht⟩

theorem enterStage_entersAfter (st : Stage) (s : State) :
    ∃ n, EntersAfter n st s (enterStage stageDepth st s) := by
  obtain ⟨n, t, hn, ht⟩ := exists_entersAfter st s
  exact ⟨n, ht.enterStage_eq hn ▸ ht⟩

theorem enterStage_of_duration_ne_zero {st : Stage} {s : State} (h : entryDuration st s ≠ 0#16) :
    enterStage stageDepth st s = program (entryDuration st s) (openStage st s) :=
  (EntersAfter.programmed h).enterStage_eq (by decide)

/-- The stages after one of no length need no more than what is left of the bound. -/
theorem enterStage_of_duration_eq_zero {st : Stage} {s : State} (h : entryDuration st s = 0#16) :
    enterStage stageDepth st s = enterStage stageDepth st.next (skipStage st s) := by
  obtain ⟨n, t, hn, ht⟩ := exists_entersAfter st s
  rw [ht.enterStage_eq hn]
  cases ht with
  | programmed hne => exact absurd h hne
  | skipped _ hnext => exact (hnext.enterStage_eq (by omega)).symm

/-- Settles O40: the relation holds for the full bound, of which each call takes one from the next. -/
theorem enterStageAndExpireRecurse : Obligations.EnterStageAndExpireRecurse := by
  refine ⟨fun st s => ?_, fun _ _ => rfl, fun _ => rfl, fun _ => ⟨rfl, rfl⟩, closeStage_stage0,
    fun _ => ⟨rfl, rfl⟩, fun s hfit => ⟨rfl, rfl, ?_⟩⟩
  · have hzero := eq_zero_iff_toNat_eq_zero (entryDuration st s)
    by_cases h : entryDuration st s = 0#16
    · exact (enterStage_of_duration_eq_zero h).trans (if_pos (hzero.1 h)).symm
    · exact (enterStage_of_duration_ne_zero h).trans (if_neg (mt hzero.2 h)).symm
  · obtain ⟨_, hw⟩ := hfit
    simp only [duration, Config.outPeriod, BitVec.toNat_ofNat] at hw ⊢
    omega

/-! ### The stage that is programmed (R98, R99) -/

/-- The stage has a length, and the timer is as programmed for it. -/
def IsProgrammed (s : State) : Prop := duration s.stage s ≠ 0#16 ∧ program (duration s.stage s) s = s

theorem isProgrammed_program {s : State} (h : duration s.stage s ≠ 0#16) :
    IsProgrammed (program (duration s.stage s) s) := by
  have hsame : duration s.stage (program (duration s.stage s) s) = duration s.stage s := by
    cases s.stage <;> rfl
  rw [IsProgrammed, program_stage, hsame]
  exact ⟨h, program_program _ _ _⟩

theorem EntersAfter.isProgrammed {n : Nat} {st : Stage} {s t : State} (h : EntersAfter n st s t) :
    IsProgrammed t := by
  induction h with
  | @programmed st s h =>
    have hstage : entryDuration st s = duration (openStage st s).stage (openStage st s) := by
      rw [openStage_stage, entryDuration]
    rw [hstage] at h ⊢
    exact isProgrammed_program h
  | skipped _ _ ih => exact ih

theorem enterStage_isProgrammed (st : Stage) (s : State) : IsProgrammed (enterStage stageDepth st s) := by
  obtain ⟨_, h⟩ := enterStage_entersAfter st s
  exact h.isProgrammed

/-- Stage1 follows Stage0 where it has a length. -/
theorem expire_stage0_of_width {s : State} (h : s.w.c1 ≠ 0#16) :
    ∃ d : Word, expire .stage0 s =
      program d { s with stage := .stage1, out := { c0 := false, c1 := s.ch1En || s.out.c1 } } := by
  unfold expire
  rw [closeStage_stage0]
  exact ⟨_, enterStage_of_duration_ne_zero (st := .stage1) h⟩

/-- Stage2 follows Stage1 where the widths leave it a length. -/
theorem expire_stage1_of_remainder {s : State} (h : s.w.c0.toNat + s.w.c1.toNat < Config.outPeriod) :
    ∃ d : Word, expire .stage1 s =
      program d { s with stage := .stage2, out := { c0 := s.out.c0, c1 := false } } :=
  ⟨_, enterStage_of_duration_ne_zero (st := .stage2)
    (mt (entryDuration_stage2_eq_zero_iff _).1 (Nat.not_le.2 h))⟩

/-- Stage0 follows Stage2 where the new period gives it a length. -/
theorem expire_stage2_of_width {s : State} (h : s.nw.c0 ≠ 0#16) :
    ∃ d : Word, expire .stage2 s =
      program d { s with stage := .stage0, w := s.nw, outDone := true
                         out := { c0 := true, c1 := s.out.c1 } } :=
  ⟨_, enterStage_of_duration_ne_zero (st := .stage0) h⟩

/-! ### CMP1_SVC (R101) -/

/-- The state in which the compare handler ends the stage. -/
def State.disarmed (s : State) : State := { s with ocf1 := false, ocie1 := false }

theorem exec_cmp1Svc_of_eligible {s : State} (h : eligible s .outputCompare = true) :
    exec .cmp1Svc s = .next (expire s.stage s.disarmed) :=
  congrArg Host.Outcome.next (takeInterrupt_of_eligible _ h)

theorem exec_cmp1Svc_of_not_eligible {s : State} (h : eligible s .outputCompare = false) :
    exec .cmp1Svc s = .next s :=
  congrArg Host.Outcome.next (takeInterrupt_of_not_eligible _ h)

/-- Settles O41: Expire enters the next stage, which each `next stage` clause supposes to have a length. -/
theorem cmp1SvcEndsTheStage : Obligations.Cmp1SvcEndsTheStage := by
  refine ⟨spells_of_encode_eq rfl rfl, rfl, ?_, ?_⟩
  · intro s hie hocie hocf hidle
    have hexec := exec_cmp1Svc_of_eligible ((eligible_iff s .outputCompare).2 ⟨hie, hocie, hocf, hidle⟩)
    have hframe := exec_cmp1Svc_frame hexec
    obtain ⟨hlength, hprogram⟩ := enterStage_isProgrammed s.stage.next (closeStage s.stage s.disarmed)
    refine ⟨_, hexec, rfl, fun hst hw => ?_, fun hst hw => ?_, fun hst hw => ?_, hlength, hprogram, hframe,
      fun a => (congrArg (fun u => nvmRead u.nvm a) hframe :)⟩
    · obtain ⟨d, hd⟩ := expire_stage0_of_width (s := s.disarmed) hw
      rw [hst, hd]
      exact ⟨rfl, rfl, rfl, rfl, rfl⟩
    · obtain ⟨d, hd⟩ := expire_stage1_of_remainder (s := s.disarmed) hw
      rw [hst, hd]
      exact ⟨rfl, rfl, rfl, rfl, rfl⟩
    · obtain ⟨d, hd⟩ := expire_stage2_of_width (s := s.disarmed) hw
      rw [hst, hd]
      exact ⟨rfl, rfl, rfl, rfl, rfl⟩
  · intro s hdisabled
    exact exec_cmp1Svc_of_not_eligible ((not_eligible_iff s .outputCompare).2 hdisabled)

/-! ### The start of a period, and OUT_START (R98, R104) -/

/-- A period that begins with Stage1. -/
theorem enterStage_stage0_of_stage1 {s : State} (h0 : s.nw.c0 = 0#16) (h1 : s.nw.c1 ≠ 0#16) :
    enterStage stageDepth .stage0 s = program s.nw.c1 (openStage .stage1 (skipStage .stage0 s)) := by
  have hlength := entryDuration_stage1_skipStage_stage0 s
  rw [enterStage_of_duration_eq_zero (st := .stage0) h0, ← hlength]
  exact enterStage_of_duration_ne_zero (hlength ▸ h1)

/-- A period without pulses. -/
theorem enterStage_stage0_of_stage2 {s : State} (h0 : s.nw.c0 = 0#16) (h1 : s.nw.c1 = 0#16) :
    enterStage stageDepth .stage0 s =
      program (entryDuration .stage2 (skipStage .stage1 (skipStage .stage0 s)))
        (openStage .stage2 (skipStage .stage1 (skipStage .stage0 s))) := by
  have hskip0 := enterStage_of_duration_eq_zero (st := .stage0) h0
  have hskip1 :=
    enterStage_of_duration_eq_zero (st := .stage1) ((entryDuration_stage1_skipStage_stage0 s).trans h1)
  exact hskip0.trans (hskip1.trans
    (enterStage_of_duration_ne_zero (entryDuration_stage2_of_widths_zero h0 h1)))

/-- R98, R108: a new period has the widths requested for it. -/
theorem enterStage_stage0_w (s : State) : (enterStage stageDepth .stage0 s).w = s.nw := by
  by_cases h0 : s.nw.c0 = 0#16
  · by_cases h1 : s.nw.c1 = 0#16
    · rw [enterStage_stage0_of_stage2 h0 h1, skipStage_stage0]; rfl
    · rw [enterStage_stage0_of_stage1 h0 h1, skipStage_stage0]; rfl
  · rw [enterStage_of_duration_ne_zero (st := .stage0) h0]; rfl

/-- The state in which OUT_START enters the first stage. -/
def State.started (s : State) : State := { s with run := true, toie1 := true }

theorem exec_outStart_of_enabled {s : State} (hmode : isRunning s = true) (hrun : s.run = false) :
    exec .outStart s = .next (enterStage stageDepth .stage0 s.started) :=
  congrArg Host.Outcome.next (if_pos (by simp [hmode, hrun]))

theorem exec_outStart_of_disabled {s : State} (h : isRunning s = false ∨ s.run = true) :
    exec .outStart s = .next s :=
  congrArg Host.Outcome.next (if_neg (by rcases h with h | h <;> simp [h]))

/-- Settles O44, by the first stage that has a length. -/
theorem outStartStartsTheGenerator : Obligations.OutStartStartsTheGenerator := by
  refine ⟨spells_of_encode_eq rfl rfl, rfl, ?_, ?_⟩
  · intro s hactive hmode hrun _
    have hexec := exec_outStart_of_enabled ((isRunning_iff s).2 ⟨hactive, hmode⟩) hrun
    have hframe := exec_outStart_frame hexec
    have hstarted := enterStage_frame stageDepth .stage0 s.started
    obtain ⟨_, hprogram⟩ := enterStage_isProgrammed .stage0 s.started
    refine ⟨_, hexec, congrArg State.run hstarted, congrArg State.toie1 hstarted,
      enterStage_stage0_w s.started, fun h0 => ?_, fun h0 h1 => ?_, fun h0 h1 => ?_, hprogram, hframe,
      fun a => (congrArg (fun u => nvmRead u.nvm a) hframe :)⟩
    · rw [enterStage_of_duration_ne_zero (st := .stage0) (s := s.started) h0]
      exact ⟨rfl, rfl, rfl⟩
    · rw [enterStage_stage0_of_stage1 (s := s.started) h0 h1, skipStage_stage0]
      exact ⟨rfl, rfl, rfl⟩
    · rw [enterStage_stage0_of_stage2 (s := s.started) h0 h1, skipStage_stage0]
      exact ⟨rfl, rfl, rfl⟩
  · intro s hdisabled
    refine exec_outStart_of_disabled ?_
    rwa [not_isRunning_iff, or_assoc]

/-! ### Where the widths of the period change (R108) -/

/-- R34: only RESET, CMP1_SVC and OUT_START write `W`. -/
theorem exec_w {i : Instr} {s t : State} (hreset : i ≠ .reset) (hcmp : i ≠ .cmp1Svc)
    (hstart : i ≠ .outStart) (h : exec i s = .next t) : t.w = s.w := by
  cases ha : agent i with
  | hw => exact (congrArg State.w (exec_hw_frame h ha) :)
  | env => exact (congrArg State.w (exec_env_frame hreset h ha) :)
  | main => exact (congrArg State.w (exec_main_frame h ha hstart) :)
  | irq =>
    cases i with
    | cmp1Svc => exact absurd rfl hcmp
    | ovf0Svc => exact (congrArg State.w (exec_ovf0Svc_frame h) :)
    | ovf1Svc => exact (congrArg State.w (exec_ovf1Svc_frame h) :)
    | capture => exact (congrArg State.w (exec_capture_frame h) :)
    | pubStep c => exact (congrArg State.w (exec_pubStep_frame c h) :)
    | publish c v => exact (congrArg State.w (exec_publish_frame c v h) :)
    | _ => simp [agent] at ha

/-- Entering Stage2 latches new widths only through a Stage2 of no length, which ends the period. -/
theorem enterStage_stage2_latches {s : State} (h : (enterStage stageDepth .stage2 s).w ≠ s.w) :
    (enterStage stageDepth .stage2 s).w = s.nw ∧ (enterStage stageDepth .stage2 s).outDone = true ∧
      entryDuration .stage2 s = 0#16 := by
  by_cases h2 : entryDuration .stage2 s = 0#16
  · have hnext : enterStage stageDepth .stage2 s = enterStage stageDepth .stage0 (skipStage .stage2 s) :=
      enterStage_of_duration_eq_zero h2
    rw [hnext]
    exact ⟨enterStage_stage0_w _, enterStage_stage0_outDone _, h2⟩
  · rw [enterStage_of_duration_ne_zero h2] at h
    exact absurd rfl h

theorem enterStage_stage1_latches {s : State} (h : (enterStage stageDepth .stage1 s).w ≠ s.w) :
    (enterStage stageDepth .stage1 s).w = s.nw ∧ (enterStage stageDepth .stage1 s).outDone = true ∧
      entryDuration .stage1 s = 0#16 ∧ entryDuration .stage2 s = 0#16 := by
  by_cases h1 : entryDuration .stage1 s = 0#16
  · have hnext : enterStage stageDepth .stage1 s = enterStage stageDepth .stage2 (skipStage .stage1 s) :=
      enterStage_of_duration_eq_zero h1
    rw [hnext] at h ⊢
    obtain ⟨hw, hdone, h2⟩ := enterStage_stage2_latches (s := skipStage .stage1 s) h
    exact ⟨hw, hdone, h1, h2⟩
  · rw [enterStage_of_duration_ne_zero h1] at h
    exact absurd rfl h

/-- R108: a stage whose end changes the widths is the last of its period that has a length. -/
theorem expire_latches {st : Stage} {s : State} (h : (expire st s).w ≠ s.w) :
    (expire st s).w = s.nw ∧ (expire st s).outDone = true ∧
      (st = .stage0 → duration .stage1 s = 0#16 ∧ duration .stage2 s = 0#16) ∧
      (st = .stage1 → duration .stage2 s = 0#16) := by
  cases st with
  | stage0 =>
    unfold expire at h ⊢
    rw [closeStage_stage0] at h ⊢
    obtain ⟨hw, hdone, h1, h2⟩ := enterStage_stage1_latches h
    exact ⟨hw, hdone, fun _ => ⟨h1, h2⟩, nofun⟩
  | stage1 =>
    obtain ⟨hw, hdone, h2⟩ := enterStage_stage2_latches (s := closeStage .stage1 s) h
    exact ⟨hw, hdone, nofun, fun _ => h2⟩
  | stage2 =>
    exact ⟨enterStage_stage0_w _, enterStage_stage0_outDone _, nofun, nofun⟩

/-- R108 for CMP1_SVC. -/
theorem exec_cmp1Svc_latches {s t : State} (h : exec .cmp1Svc s = .next t) (hw : t.w ≠ s.w) :
    t.w = s.nw ∧ t.outDone = true ∧
      (s.stage = .stage0 → duration .stage1 s = 0#16 ∧ duration .stage2 s = 0#16) ∧
      (s.stage = .stage1 → duration .stage2 s = 0#16) := by
  cases helig : eligible s .outputCompare with
  | false =>
    cases (exec_cmp1Svc_of_not_eligible helig).symm.trans h
    exact absurd rfl hw
  | true =>
    cases (exec_cmp1Svc_of_eligible helig).symm.trans h
    exact expire_latches (s := s.disarmed) hw

/-- R108 for OUT_START. -/
theorem exec_outStart_latches {s t : State} (h : exec .outStart s = .next t) (hw : t.w ≠ s.w) :
    t.w = s.nw ∧ s.run = false ∧ t.run = true := by
  obtain ⟨hstopped, hruns⟩ :=
    (exec_outStart_cases h).resolve_left fun hsame => hw (congrArg State.w hsame)
  refine ⟨?_, hstopped, hruns⟩
  cases hmode : isRunning s with
  | false =>
    cases (exec_outStart_of_disabled (.inl hmode)).symm.trans h
    exact absurd rfl hw
  | true =>
    cases (exec_outStart_of_enabled hmode hstopped).symm.trans h
    exact enterStage_stage0_w s.started

theorem exec_latches {i : Instr} {s t : State} (hreset : i ≠ .reset) (h : exec i s = .next t)
    (hw : t.w ≠ s.w) : (i = .cmp1Svc ∨ i = .outStart) ∧ t.w = s.nw := by
  by_cases hcmp : i = .cmp1Svc
  · subst hcmp
    obtain ⟨hlatch, _⟩ := exec_cmp1Svc_latches h hw
    exact ⟨.inl rfl, hlatch⟩
  by_cases hstart : i = .outStart
  · subst hstart
    obtain ⟨hlatch, _⟩ := exec_outStart_latches h hw
    exact ⟨.inr rfl, hlatch⟩
  · exact absurd (exec_w hreset hcmp hstart h) hw

/-! ### Where the requested widths change (R102, R108) -/

/-- The operations that reach SetW. -/
def RequestsWidths (i : Instr) : Prop :=
  i = .mix ∨ (∃ a b : Word, i = .setWidths a b) ∨ ∃ p q : Word, i = .xform p q

/-- R34: only RESET and the operations that reach SetW write `NW`. -/
theorem exec_nw {i : Instr} {s t : State} (hreset : i ≠ .reset) (hrequest : ¬RequestsWidths i)
    (h : exec i s = .next t) : t.nw = s.nw := by
  cases ha : agent i with
  | hw => exact (congrArg State.nw (exec_hw_frame h ha) :)
  | env => exact (congrArg State.nw (exec_env_frame hreset h ha) :)
  | irq => exact (congrArg State.nw (exec_irq_frame h ha) :)
  | main =>
    cases i with
    | now => exact (congrArg State.nw (exec_now_frame h) :)
    | irqMask => exact (congrArg State.nw (exec_irqMask_frame h) :)
    | irqUnmask => exact (congrArg State.nw (exec_irqUnmask_frame h) :)
    | mix => exact absurd (.inl rfl) hrequest
    | outStart => exact (congrArg State.nw (exec_outStart_frame h) :)
    | outPoll => exact (congrArg State.nw (exec_outPoll_frame h) :)
    | boot j => exact (congrArg State.nw (exec_boot_frame j h) :)
    | outCfg e => exact (congrArg State.nw (exec_outCfg_frame e h) :)
    | takeStep c => exact (congrArg State.nw (exec_takeStep_frame c h) :)
    | tryTake c => exact (congrArg State.nw (exec_tryTake_frame c h) :)
    | calStep c => exact (congrArg State.nw (exec_calStep_frame c h) :)
    | calSample c w => exact (congrArg State.nw (exec_calSample_frame c w h) :)
    | setWidths a b => exact absurd (.inr (.inl ⟨a, b, rfl⟩)) hrequest
    | xform p q => exact absurd (.inr (.inr ⟨p, q, rfl⟩)) hrequest
    | _ => simp [agent] at ha

/-- Settles O49, register by register. -/
theorem widthsLatchAtThePeriodBoundary : Obligations.WidthsLatchAtThePeriodBoundary := by
  intro i s t hreset h
  refine ⟨exec_latches hreset h, ?_, ?_, fun hnw => ?_⟩
  · rintro hw rfl
    obtain ⟨_, hends⟩ := exec_cmp1Svc_latches h hw
    exact hends
  · rintro hw rfl
    obtain ⟨_, hstarts⟩ := exec_outStart_latches h hw
    exact hstarts
  · exact not_not.1 fun hrequest => hnw (exec_nw hreset hrequest h)

/-! ### Both pairs of widths fit the period (R98, R102) -/

/-- The requested widths fit the period. -/
def RequestFits (s : State) : Prop := s.nw.c0.toNat + s.nw.c1.toNat ≤ Config.outPeriod

/-- R102: SetW refuses a sum above the period. -/
theorem setW_requestFits (a b : Word) {s : State} (hs : RequestFits s) : RequestFits (setW a b s) := by
  rcases setW_cases a b s with ⟨hfits, e⟩ | ⟨_, e⟩ <;> rw [e]
  · exact hfits
  · exact hs

theorem exec_requestFits {i : Instr} {s t : State} (hreset : i ≠ .reset) (hs : RequestFits s)
    (h : exec i s = .next t) : RequestFits t := by
  by_cases hrequest : RequestsWidths i
  · rcases hrequest with rfl | ⟨a, b, rfl⟩ | ⟨p, q, rfl⟩
    · simp only [exec, execMix] at h
      split at h <;> cases h
      · exact setW_requestFits _ _ hs
      · exact hs
    · simp only [exec, execSetWidths] at h
      split at h <;> cases h
      · exact setW_requestFits a b hs
      · exact hs
    · simp only [exec, execXform] at h
      split at h <;> cases h
      · exact setW_requestFits _ _ hs
      · exact hs
  · rwa [RequestFits, exec_nw hreset hrequest h]

/-- `W` is as before or what was requested. -/
theorem widthsFit_exec {i : Instr} {s t : State} (hs : WidthsFit s) (h : exec i s = .next t) :
    WidthsFit t := by
  by_cases hreset : i = .reset
  · subst hreset
    rw [exec_reset_frame h]
    exact widthsFit_reset
  obtain ⟨hnw, hw⟩ := hs
  refine ⟨exec_requestFits hreset hnw h, ?_⟩
  by_cases hsame : t.w = s.w
  · rwa [hsame]
  · obtain ⟨_, hlatch⟩ := exec_latches hreset h hsame
    rwa [hlatch]

/-- Settles O48: the invariant reads no byte of the stream, and every operation keeps it. -/
theorem stepKeepsWidthsWithinThePeriod : Obligations.StepKeepsWidthsWithinThePeriod := by
  intro s t hs h
  obtain ⟨i, rest, _, hexec⟩ := exists_exec_of_step h
  exact widthsFit_exec (s := { s with stream := rest }) hs hexec

/-! ### The pins along EnterStage and Expire (R95, R98, R99) -/

/-- The pins are those of the stage. -/
structure PinsOfStage (s : State) : Prop where
  out0_iff_stage0 : s.out.c0 = decide (s.stage = .stage0)
  out1_only_stage1 : s.out.c1 = true → s.stage = .stage1

/-- The pins as the end of a stage leaves them for `st`. -/
structure PinsBefore (st : Stage) (s : State) : Prop where
  out0_low : s.out.c0 = false
  out1_only_stage1 : s.out.c1 = true → st = .stage1

theorem openStage_pinsOfStage {st : Stage} {s : State} (h : PinsBefore st s) :
    PinsOfStage (openStage st s) := by
  obtain ⟨hlow, hout1⟩ := h
  cases st with
  | stage0 => exact ⟨rfl, fun h1 => absurd (hout1 h1) (by decide)⟩
  | stage1 => exact ⟨hlow, fun _ => rfl⟩
  | stage2 => exact ⟨hlow, hout1⟩

theorem closeStage_pinsBefore {s : State} (h : PinsOfStage s) :
    PinsBefore s.stage.next (closeStage s.stage s) := by
  obtain ⟨hout0, hout1⟩ := h
  cases hst : s.stage <;> rw [hst] at hout0 hout1
  case stage0 =>
    rw [closeStage_stage0]
    exact ⟨rfl, fun _ => rfl⟩
  case stage1 => exact ⟨hout0, nofun⟩
  case stage2 =>
    exact ⟨hout0, fun h1 => absurd (hout1 h1) (by decide)⟩

/-- The stages of no length hand the pins on to the one that is programmed. -/
theorem EntersAfter.pinsOfStage {n : Nat} {st : Stage} {s t : State} (h : EntersAfter n st s t)
    (hs : PinsBefore st s) : PinsOfStage t := by
  induction h with
  | programmed _ =>
    obtain ⟨hout0, hout1⟩ := openStage_pinsOfStage hs
    exact ⟨hout0, hout1⟩
  | @skipped n st s t _ _ ih =>
    obtain ⟨hout0, hout1⟩ := openStage_pinsOfStage hs
    have hclosed := closeStage_pinsBefore (s := { openStage st s with ocie1 := false }) ⟨hout0, hout1⟩
    have hstage : ({ openStage st s with ocie1 := false } : State).stage = st := openStage_stage st s
    rw [hstage] at hclosed
    exact ih hclosed

/-! ### The running generator (R107) -/

/-- R97, R107: what is entered is programmed, so the compare value keeps the margin and the compare is
armed exactly where there is one lap only. -/
theorem enterStage_generatorRunning {st : Stage} {s : State} (hpins : PinsBefore st s)
    (htoie : s.toie1 = true) : GeneratorRunning (enterStage stageDepth st s) := by
  obtain ⟨_, hent⟩ := enterStage_entersAfter st s
  obtain ⟨_, hprogram⟩ := hent.isProgrammed
  obtain ⟨hout0, hout1⟩ := hent.pinsOfStage hpins
  refine ⟨?_, hout0, hout1, ?_, ?_⟩
  · rw [← hprogram]
    exact margin_le_program_ocr1 _ _
  · rw [← hprogram]
    exact beq_eq_decide _ _
  · rw [enterStage_frame]
    exact htoie

theorem GeneratorRunning.pinsOfStage {s : State} (h : GeneratorRunning s) : PinsOfStage s :=
  ⟨h.out0_iff_stage0, h.out1_only_stage1⟩

/-! ### Every operation keeps the generator's invariant (R107) -/

/-- The registers of the invariant, but for the fault bit. -/
def generatorRegisters (s : State) :
    Bool × Bool × Bool × Chan Bool × Byte × Byte × Stage × Config.Params :=
  (s.run, s.toie1, s.ocie1, s.out, s.ocr1, s.hi1, s.stage, s.params)

theorem generatorRegisters_eq_iff {s t : State} :
    generatorRegisters t = generatorRegisters s ↔
      t.run = s.run ∧ t.toie1 = s.toie1 ∧ t.ocie1 = s.ocie1 ∧ t.out = s.out ∧ t.ocr1 = s.ocr1 ∧
        t.hi1 = s.hi1 ∧ t.stage = s.stage ∧ t.params = s.params := by
  simp [generatorRegisters]

theorem GeneratorInv.of_eq {s t : State} (hs : GeneratorInv s)
    (h : generatorRegisters t = generatorRegisters s)
    (hflt : hasFault t.flt .outputHazard = hasFault s.flt .outputHazard) : GeneratorInv t := by
  obtain ⟨hrun, htoie, hocie, hout, hocr, hhi, hst, hparams⟩ := generatorRegisters_eq_iff.1 h
  refine ⟨fun hstopped => ?_, fun hruns => ?_, hflt.trans hs.no_hazard⟩
  · obtain ⟨hoverflow, hcompare, hlow⟩ := hs.idle (hrun ▸ hstopped)
    exact ⟨htoie.trans hoverflow, hocie.trans hcompare, hout.trans hlow⟩
  · obtain ⟨hmargin, hout0, hout1, harmed, hoverflow⟩ := hs.running (hrun ▸ hruns)
    exact ⟨by rwa [hparams, hocr], by rwa [hout, hst], by rwa [hout, hst], by rwa [hocie, hhi],
      htoie.trans hoverflow⟩

/-- A running generator is all the invariant asks where the fault bit is 0. -/
theorem GeneratorInv.of_running {s : State} (h : GeneratorRunning s) (hrun : s.run = true)
    (hflt : hasFault s.flt .outputHazard = false) : GeneratorInv s :=
  ⟨fun hstopped => absurd hrun (Bool.eq_false_iff.1 hstopped), fun _ => h, hflt⟩

theorem GeneratorInv.run_of_overflow_enabled {s : State} (hs : GeneratorInv s) (h : s.toie1 = true) :
    s.run = true := by
  by_contra hstopped
  have hidle := hs.idle (Bool.eq_false_iff.2 hstopped)
  exact absurd (hidle.overflow_disabled.symm.trans h) Bool.false_ne_true

theorem GeneratorInv.run_of_compare_enabled {s : State} (hs : GeneratorInv s) (h : s.ocie1 = true) :
    s.run = true := by
  by_contra hstopped
  have hidle := hs.idle (Bool.eq_false_iff.2 hstopped)
  exact absurd (hidle.compare_disabled.symm.trans h) Bool.false_ne_true

/-- R107, R118: the margin keeps the compare value away from the count of a wrap. -/
theorem GeneratorInv.not_ticksIntoHazard {s : State} (hs : GeneratorInv s) : ¬TicksIntoHazard s := by
  rintro ⟨hwrap, hmatch, hrun⟩
  have hmargin := (hs.running hrun).margin_le_compare
  obtain ⟨hpos, _⟩ := outMargin_bounds s.params
  exact not_ticksIntoHazard_of_ocr1_pos (by omega) ⟨hwrap, hmatch, hrun⟩

theorem generatorInv_exec_tickOut {s t : State} (hs : GeneratorInv s) (h : exec .tickOut s = .next t) :
    GeneratorInv t := by
  cases (exec_tickOut_of_no_hazard hs.not_ticksIntoHazard).symm.trans h
  exact hs.of_eq rfl rfl

/-- R100: the compare is armed when the high byte reaches 0. -/
theorem generatorInv_exec_ovf1Svc {s t : State} (hs : GeneratorInv s) (h : exec .ovf1Svc s = .next t) :
    GeneratorInv t := by
  cases helig : eligible s .outputOverflow with
  | false =>
    cases (exec_ovf1Svc_of_not_eligible helig).symm.trans h
    exact hs
  | true =>
    obtain ⟨_, htoie, _⟩ := (eligible_iff _ _).1 helig
    have hrun := hs.run_of_overflow_enabled htoie
    obtain ⟨hmargin, hout0, hout1, harmed, hoverflow⟩ := hs.running hrun
    by_cases h1 : s.hi1 = 1#8
    · cases (exec_ovf1Svc_of_arming helig h1).symm.trans h
      exact .of_running ⟨hmargin, hout0, hout1, rfl, hoverflow⟩ hrun hs.no_hazard
    by_cases h0 : s.hi1 = 0#8
    · cases (exec_ovf1Svc_of_final_lap helig h0).symm.trans h
      exact .of_running ⟨hmargin, hout0, hout1, harmed, hoverflow⟩ hrun hs.no_hazard
    · cases (exec_ovf1Svc_of_lap helig h0 h1).symm.trans h
      have hne : s.hi1 - 1#8 ≠ 0#8 := by bv_omega
      have hunarmed : s.ocie1 = decide (s.hi1 - 1#8 = 0#8) :=
        harmed.trans ((decide_eq_false h0).trans (decide_eq_false hne).symm)
      exact .of_running ⟨hmargin, hout0, hout1, hunarmed, hoverflow⟩ hrun hs.no_hazard

/-- R101: the compare of a generator that does not run is disabled, and the end of a stage programs the
next one. -/
theorem generatorInv_exec_cmp1Svc {s t : State} (hs : GeneratorInv s) (h : exec .cmp1Svc s = .next t) :
    GeneratorInv t := by
  cases helig : eligible s .outputCompare with
  | false =>
    cases (exec_cmp1Svc_of_not_eligible helig).symm.trans h
    exact hs
  | true =>
    obtain ⟨_, hocie, _⟩ := (eligible_iff _ _).1 helig
    have hrun := hs.run_of_compare_enabled hocie
    have hrunning := hs.running hrun
    have hframe := exec_cmp1Svc_frame h
    cases (exec_cmp1Svc_of_eligible helig).symm.trans h
    obtain ⟨hout0, hout1⟩ := hrunning.pinsOfStage
    have hpins : PinsBefore s.stage.next (closeStage s.stage s.disarmed) :=
      closeStage_pinsBefore (s := s.disarmed) ⟨hout0, hout1⟩
    refine .of_running (enterStage_generatorRunning hpins ?_) ?_ ?_
    · rw [closeStage_toie1]
      exact hrunning.overflow_enabled
    · exact (congrArg State.run hframe).trans hrun
    · exact (congrArg (fun u : State => hasFault u.flt .outputHazard) hframe).trans hs.no_hazard

/-- R104: the pins of a generator that does not run are low. -/
theorem generatorInv_exec_outStart {s t : State} (hs : GeneratorInv s) (h : exec .outStart s = .next t) :
    GeneratorInv t := by
  by_cases hdisabled : isRunning s = false ∨ s.run = true
  · cases (exec_outStart_of_disabled hdisabled).symm.trans h
    exact hs
  · obtain ⟨hmode, hrun⟩ : isRunning s = true ∧ s.run = false := by simpa using hdisabled
    have hframe := exec_outStart_frame h
    cases (exec_outStart_of_enabled hmode hrun).symm.trans h
    have hlow := (hs.idle hrun).outputs_low
    have hpins : PinsBefore .stage0 s.started :=
      ⟨congrArg Chan.c0 hlow, fun h1 => absurd ((congrArg Chan.c1 hlow).symm.trans h1) (by decide)⟩
    refine .of_running (enterStage_generatorRunning hpins rfl) ?_ ?_
    · rw [enterStage_frame]
      rfl
    · exact (congrArg (fun u : State => hasFault u.flt .outputHazard) hframe).trans hs.no_hazard

/-- R34: the other operations of the interrupt handlers write none of the generator's registers. -/
theorem generatorInv_exec_irq {i : Instr} {s t : State} (hs : GeneratorInv s) (h : exec i s = .next t)
    (ha : agent i = .irq) : GeneratorInv t := by
  cases i with
  | ovf1Svc => exact generatorInv_exec_ovf1Svc hs h
  | cmp1Svc => exact generatorInv_exec_cmp1Svc hs h
  | ovf0Svc => rw [exec_ovf0Svc_frame h]; exact hs.of_eq rfl rfl
  | capture => rw [exec_capture_frame h]; exact hs.of_eq rfl rfl
  | pubStep c => rw [exec_pubStep_frame c h]; exact hs.of_eq rfl rfl
  | publish c v => rw [exec_publish_frame c v h]; exact hs.of_eq rfl rfl
  | _ => simp [agent] at ha

theorem generatorInv_exec {i : Instr} {s t : State} (hs : GeneratorInv s) (h : exec i s = .next t) :
    GeneratorInv t := by
  cases ha : agent i with
  | hw =>
    cases i with
    | tickOut => exact generatorInv_exec_tickOut hs h
    | tickIn => rw [exec_tickIn_frame h]; exact hs.of_eq rfl rfl
    | _ => simp [agent] at ha
  | env =>
    by_cases hreset : i = .reset
    · subst hreset
      rw [exec_reset_frame h]
      exact ⟨fun _ => ⟨rfl, rfl, rfl⟩, nofun, generatorInv_reset.no_hazard⟩
    · rw [exec_env_frame hreset h ha]
      exact hs.of_eq rfl rfl
  | irq => exact generatorInv_exec_irq hs h ha
  | main =>
    by_cases hstart : i = .outStart
    · subst hstart
      exact generatorInv_exec_outStart hs h
    · exact hs.of_eq (congrArg generatorRegisters (exec_main_frame h ha hstart) :)
        (exec_main_sharedFall h ha).hazard

/-- Settles O45: the invariant reads no byte of the stream, and every operation keeps it. -/
theorem stepKeepsGlitchFreedom : Obligations.StepKeepsGlitchFreedom := by
  intro s t hs h
  obtain ⟨i, rest, _, hexec⟩ := exists_exec_of_step h
  exact generatorInv_exec (s := { s with stream := rest }) (hs.of_eq rfl rfl) hexec

/-! ### What is entered does not depend on the output timer (R97) -/

/-- The registers of the output timer, all of which Program writes. -/
structure Timer where
  tcnt1 : Byte
  ocr1 : Byte
  tov1 : Bool
  ocf1 : Bool
  hi1 : Byte
  ocie1 : Bool

/-- The state with another output timer. -/
def State.withTimer (s : State) (τ : Timer) : State :=
  { s with
    tcnt1 := τ.tcnt1
    ocr1 := τ.ocr1
    tov1 := τ.tov1
    ocf1 := τ.ocf1
    hi1 := τ.hi1
    ocie1 := τ.ocie1 }

theorem openStage_withTimer (st : Stage) (s : State) (τ : Timer) :
    openStage st (s.withTimer τ) = (openStage st s).withTimer τ := by
  cases st <;> rfl

theorem closeStage_withTimer (st : Stage) (s : State) (τ : Timer) :
    closeStage st (s.withTimer τ) = (closeStage st s).withTimer τ := by
  cases st <;> rfl

theorem entryDuration_withTimer (st : Stage) (s : State) (τ : Timer) :
    entryDuration st (s.withTimer τ) = entryDuration st s := by
  cases st <;> rfl

theorem skipStage_withTimer (st : Stage) (s : State) (τ : Timer) :
    skipStage st (s.withTimer τ) = (skipStage st s).withTimer { τ with ocie1 := false } := by
  cases st <;> rfl

theorem EntersAfter.withTimer {n : Nat} {st : Stage} {s t : State} (h : EntersAfter n st s t) (τ : Timer) :
    EntersAfter n st (s.withTimer τ) t := by
  induction h generalizing τ with
  | @programmed st s hne =>
    have hsame : program (entryDuration st (s.withTimer τ)) (openStage st (s.withTimer τ)) =
        program (entryDuration st s) (openStage st s) := by
      rw [entryDuration_withTimer, openStage_withTimer]
      rfl
    rw [← hsame]
    exact .programmed ((entryDuration_withTimer st s τ).trans_ne hne)
  | @skipped n st s t hzero _ ih =>
    refine .skipped ((entryDuration_withTimer st s τ).trans hzero) ?_
    rw [skipStage_withTimer]
    exact ih _

/-- R98: EnterStage ends in Program, which overwrites the timer it finds. -/
theorem enterStage_withTimer (st : Stage) (s : State) (τ : Timer) :
    enterStage stageDepth st (s.withTimer τ) = enterStage stageDepth st s := by
  obtain ⟨n, t, hn, ht⟩ := exists_entersAfter st s
  rw [ht.enterStage_eq hn, (ht.withTimer τ).enterStage_eq hn]

theorem expire_withTimer (st : Stage) (s : State) (τ : Timer) :
    expire st (s.withTimer τ) = expire st s := by
  rw [expire, closeStage_withTimer, enterStage_withTimer, expire]

theorem expire_program (st : Stage) (d : Word) (s : State) : expire st (program d s) = expire st s :=
  expire_withTimer st s
    ⟨(program d s).tcnt1, (program d s).ocr1, false, false, highByte d, highByte d == 0#8⟩

/-- What the handlers ask of the state they find stands outside the timer. -/
theorem PromptReady.withTimer {s : State} (h : PromptReady s) (τ : Timer) : PromptReady (s.withTimer τ) :=
  ⟨h.running, h.unmasked, h.overflow_enabled, h.no_publish⟩

/-! ### One tick with prompt service (R106) -/

/-- R97, R100: `r` promptly served ticks are left of the stage. The compare match is pending in the final
lap exactly where none is left. -/
structure StageClock (r : Nat) (s : State) : Prop where
  compare_pos : 0 < s.ocr1.toNat
  ticks_left : r + s.tcnt1.toNat = 256 * s.hi1.toNat + s.ocr1.toNat
  overflow_served : s.tov1 = false
  armed_iff_final_lap : s.ocie1 = decide (s.hi1 = 0#8)
  match_iff_over : s.hi1 = 0#8 → s.ocf1 = decide (r = 0)

theorem program_stageClock {d : Word} (hd : d ≠ 0#16) (s : State) : StageClock d.toNat (program d s) where
  compare_pos := by
    have hmargin := margin_le_program_ocr1 d s
    obtain ⟨hpos, _⟩ := outMargin_bounds s.params
    omega
  ticks_left := by
    rw [toNat_program_ocr1, program_hi1, toNat_eq_bytes d]
    omega
  overflow_served := rfl
  armed_iff_final_lap := beq_eq_decide _ _
  match_iff_over _ := (decide_eq_false (mt (eq_zero_iff_toNat_eq_zero d).2 hd)).symm

theorem eligible_outputOverflow {s : State} (hs : PromptReady s) : eligible s .outputOverflow = s.tov1 := by
  simp [eligible, enabled, pending, hs.unmasked, hs.overflow_enabled, hs.no_publish]

theorem eligible_outputCompare {s : State} (hs : PromptReady s) :
    eligible s .outputCompare = (s.ocie1 && s.ocf1) := by
  simp [eligible, enabled, pending, hs.unmasked, hs.no_publish]

theorem toNat_ticked_tcnt1 {s : State} (hwrap : s.tcnt1.toNat ≠ 255) :
    s.ticked.tcnt1.toNat = s.tcnt1.toNat + 1 := by
  have hlt := s.tcnt1.isLt
  change (s.tcnt1 + 1#8).toNat = _
  rw [BitVec.toNat_add, BitVec.toNat_ofNat]
  omega

theorem ticked_tcnt1_of_wrap {s : State} (hwrap : s.tcnt1.toNat = 255) : s.ticked.tcnt1 = 0#8 :=
  congrArg (· + 1#8) (BitVec.eq_of_toNat_eq hwrap : s.tcnt1 = 255#8)

/-- A tick that does not wrap the counter leaves nothing for OVF1_SVC. -/
theorem stageClock_ticked {r : Nat} {s : State} (hs : StageClock (r + 1) s) (hwrap : s.tcnt1.toNat ≠ 255) :
    s.ticked.tov1 = false ∧ StageClock r s.ticked := by
  obtain ⟨hpos, hleft, hserved, harmed, hmatch⟩ := hs
  have hcount := toNat_ticked_tcnt1 hwrap
  obtain ⟨htov, hocf⟩ := ticked_flags s
  have hquiet : s.ticked.tov1 = false := by
    rw [htov, hserved, hcount, decide_eq_false (Nat.succ_ne_zero _), Bool.false_or]
  have hticks : r + s.ticked.tcnt1.toNat = 256 * s.hi1.toNat + s.ocr1.toNat := by omega
  refine ⟨hquiet, hpos, hticks, hquiet, harmed, fun hfinal => ?_⟩
  have hlap : s.hi1.toNat = 0 := congrArg BitVec.toNat hfinal
  rw [hocf, hmatch hfinal, decide_eq_false (Nat.succ_ne_zero r), Bool.false_or, decide_eq_decide,
    ← BitVec.toNat_inj]
  omega

/-- R100: the overflow that begins the final lap arms the compare and discards the matches before it. -/
theorem stageClock_of_arming {r : Nat} {s : State} (hs : StageClock (r + 1) s) (hwrap : s.tcnt1.toNat = 255)
    (hhi : s.hi1 = 1#8) :
    StageClock r (s.withTimer ⟨s.ticked.tcnt1, s.ocr1, false, false, 0#8, true⟩) := by
  obtain ⟨hpos, hleft, _⟩ := hs
  rw [hwrap, hhi, BitVec.toNat_ofNat] at hleft
  rw [ticked_tcnt1_of_wrap hwrap]
  exact ⟨hpos, by simp only [State.withTimer, BitVec.toNat_ofNat]; omega, rfl, rfl,
    fun _ => (decide_eq_false (by omega)).symm⟩

/-- R100: an overflow before that counts one lap down. -/
theorem stageClock_of_lap {r : Nat} {s : State} (hs : StageClock (r + 1) s) (hwrap : s.tcnt1.toNat = 255)
    (h0 : s.hi1 ≠ 0#8) (h1 : s.hi1 ≠ 1#8) :
    StageClock r
      (s.withTimer ⟨s.ticked.tcnt1, s.ocr1, false, s.ticked.ocf1, s.hi1 - 1#8, s.ocie1⟩) := by
  obtain ⟨hpos, hleft, _, harmed, _⟩ := hs
  have hne : s.hi1 - 1#8 ≠ 0#8 := by bv_omega
  rw [ticked_tcnt1_of_wrap hwrap]
  refine ⟨hpos, ?_, rfl, ?_, fun hfinal => absurd hfinal hne⟩
  · simp only [State.withTimer]
    bv_omega
  · simp only [State.withTimer, harmed, h0, hne]

theorem PromptReady.ticked {s : State} (h : PromptReady s) : PromptReady s.ticked :=
  ⟨h.running, h.unmasked, h.overflow_enabled, h.no_publish⟩

/-- A tick and the service of its overflow take one from the ticks that are left. -/
theorem execList_tick_ovf1Svc {r : Nat} {s : State} (hready : PromptReady s) (hs : StageClock (r + 1) s) :
    ∃ τ, execList [.tickOut, .ovf1Svc] s = .next (s.withTimer τ) ∧ StageClock r (s.withTimer τ) := by
  rw [execList_cons_next (exec_tickOut_of_no_hazard (not_ticksIntoHazard_of_ocr1_pos hs.compare_pos))]
  have helig := eligible_outputOverflow hready.ticked
  by_cases hwrap : s.tcnt1.toNat = 255
  · obtain ⟨htov, _⟩ := ticked_flags s
    rw [htov, ticked_tcnt1_of_wrap hwrap, decide_eq_true (by rfl), Bool.or_true] at helig
    have h0 : s.hi1 ≠ 0#8 := by
      have hlt := s.ocr1.isLt
      have hleft := hs.ticks_left
      rintro h0
      rw [h0, BitVec.toNat_ofNat] at hleft
      omega
    by_cases h1 : s.hi1 = 1#8
    · refine ⟨_, ?_, stageClock_of_arming hs hwrap h1⟩
      exact execList_cons_next (exec_ovf1Svc_of_arming (s := s.ticked) helig h1) []
    · refine ⟨_, ?_, stageClock_of_lap hs hwrap h0 h1⟩
      exact execList_cons_next (exec_ovf1Svc_of_lap (s := s.ticked) helig h0 h1) []
  · obtain ⟨hquiet, hclock⟩ := stageClock_ticked hs hwrap
    rw [hquiet] at helig
    exact ⟨⟨s.ticked.tcnt1, s.ocr1, s.ticked.tov1, s.ticked.ocf1, s.hi1, s.ocie1⟩,
      execList_cons_next (exec_ovf1Svc_of_not_eligible helig) [], hclock⟩

/-- The compare handler has nothing to do while ticks are left. -/
theorem exec_cmp1Svc_of_stageClock_pos {r : Nat} {s : State} (hready : PromptReady s)
    (hs : StageClock (r + 1) s) : exec .cmp1Svc s = .next s := by
  refine exec_cmp1Svc_of_not_eligible ?_
  rw [eligible_outputCompare hready, hs.armed_iff_final_lap]
  by_cases hfinal : s.hi1 = 0#8
  · rw [hs.match_iff_over hfinal, decide_eq_false (Nat.succ_ne_zero r), Bool.and_false]
  · rw [decide_eq_false hfinal, Bool.false_and]

/-- When none is left the compare handler ends the stage. -/
theorem exec_cmp1Svc_of_stageClock_zero {s : State} (hready : PromptReady s) (hs : StageClock 0 s) :
    exec .cmp1Svc s = .next (expire s.stage s) := by
  have hfinal : s.hi1 = 0#8 := by
    have hlt := s.tcnt1.isLt
    have hleft := hs.ticks_left
    have hpos := hs.compare_pos
    rw [eq_zero_iff_toNat_eq_zero]
    omega
  have helig : eligible s .outputCompare = true := by
    rw [eligible_outputCompare hready, hs.armed_iff_final_lap, hs.match_iff_over hfinal]
    simp [hfinal]
  have hsame : expire s.stage s.disarmed = expire s.stage s :=
    expire_withTimer s.stage s ⟨s.tcnt1, s.ocr1, s.tov1, false, s.hi1, false⟩
  rw [exec_cmp1Svc_of_eligible helig, hsame]

theorem execList_tickOutS_of_pos {r : Nat} {s : State} (hready : PromptReady s)
    (hs : StageClock (r + 1 + 1) s) :
    ∃ τ, execList tickOutS s = .next (s.withTimer τ) ∧ StageClock (r + 1) (s.withTimer τ) := by
  obtain ⟨τ, hserved, hclock⟩ := execList_tick_ovf1Svc hready hs
  exact ⟨τ, (execList_append_next hserved [.cmp1Svc]).trans
    (execList_cons_next (exec_cmp1Svc_of_stageClock_pos (hready.withTimer τ) hclock) []), hclock⟩

theorem execList_tickOutS_of_last {s : State} (hready : PromptReady s) (hs : StageClock 1 s) :
    execList tickOutS s = .next (expire s.stage s) := by
  obtain ⟨τ, hserved, hclock⟩ := execList_tick_ovf1Svc hready hs
  have hexpire := exec_cmp1Svc_of_stageClock_zero (hready.withTimer τ) hclock
  rw [expire_withTimer] at hexpire
  exact (execList_append_next hserved [.cmp1Svc]).trans (execList_cons_next hexpire [])

/-! ### A whole stage with prompt service (R106) -/

theorem runOut_within_stage (n : Nat) {r : Nat} {s : State} (hready : PromptReady s)
    (hs : StageClock (n + (r + 1)) s) :
    ∃ τ, execList (runOut n) s = .next (s.withTimer τ) ∧ StageClock (r + 1) (s.withTimer τ) := by
  induction n generalizing r with
  | zero =>
    rw [Nat.zero_add] at hs
    exact ⟨⟨s.tcnt1, s.ocr1, s.tov1, s.ocf1, s.hi1, s.ocie1⟩, rfl, hs⟩
  | succ n ih =>
    obtain ⟨τ, hrun, hclock⟩ := ih (r := r + 1) (by rwa [Nat.add_right_comm, Nat.add_assoc] at hs)
    obtain ⟨τ', htick, hclock'⟩ := execList_tickOutS_of_pos (hready.withTimer τ) hclock
    rw [runOut_succ]
    exact ⟨τ', (execList_append_next hrun _).trans htick, hclock'⟩

theorem runOut_to_expiry {r : Nat} {s : State} (hready : PromptReady s) (hs : StageClock (r + 1) s) :
    execList (runOut (r + 1)) s = .next (expire s.stage s) := by
  obtain ⟨τ, hrun, hclock⟩ := runOut_within_stage r (r := 0) hready hs
  rw [runOut_succ, execList_append_next hrun, execList_tickOutS_of_last (hready.withTimer τ) hclock,
    expire_withTimer]
  rfl

/-- Settles O46: Program sets the clock of the stage to its duration. -/
theorem stageLastsExactlyItsDuration : Obligations.StageLastsExactlyItsDuration := by
  intro d s hd hready
  have hclock := program_stageClock hd s
  have hready' : PromptReady (program d s) :=
    ⟨hready.running, hready.unmasked, hready.overflow_enabled, hready.no_publish⟩
  refine ⟨fun n hn => ?_, ?_⟩
  · obtain ⟨r, hr⟩ := Nat.exists_eq_add_of_lt hn
    rw [hr, Nat.add_assoc] at hclock
    obtain ⟨τ, hrun, _⟩ := runOut_within_stage n hready' hclock
    exact ⟨_, hrun, rfl⟩
  · obtain ⟨r, hr⟩ := Nat.exists_eq_succ_of_ne_zero (mt (eq_zero_iff_toNat_eq_zero d).2 hd)
    rw [hr] at hclock ⊢
    exact runOut_to_expiry hready' hclock

/-! ### The period with prompt service (R106) -/

/-- The state in which a stage has run its time, the timer apart. -/
def passStage (st : Stage) (s : State) : State := closeStage st (openStage st s)

theorem PromptReady.openStage {s : State} (h : PromptReady s) (st : Stage) :
    PromptReady (openStage st s) := by
  obtain ⟨hrun, hie, htoie, hidle⟩ := h
  cases st <;> exact ⟨hrun, hie, htoie, hidle⟩

theorem PromptReady.passStage {s : State} (h : PromptReady s) (st : Stage) :
    PromptReady (passStage st s) := by
  obtain ⟨hrun, hie, htoie, hidle⟩ := h
  cases st <;> exact ⟨hrun, hie, htoie, hidle⟩

/-- R98: a stage of no length is passed in the operation that enters it. -/
theorem enterStage_passes {st : Stage} {s : State} (h : entryDuration st s = 0#16) :
    enterStage stageDepth st s = enterStage stageDepth st.next (passStage st s) := by
  have hskip : skipStage st s =
      (passStage st s).withTimer ⟨s.tcnt1, s.ocr1, s.tov1, s.ocf1, s.hi1, false⟩ := by
    cases st <;> rfl
  rw [enterStage_of_duration_eq_zero h, hskip, enterStage_withTimer]

/-- For as many ticks as it lasts, the stage entered stays open. -/
theorem runOut_enterStage_of_lt {st : Stage} {s : State} (hready : PromptReady s) {n : Nat}
    (hn : n < (entryDuration st s).toNat) :
    ∃ τ, execList (runOut n) (enterStage stageDepth st s) = .next ((openStage st s).withTimer τ) := by
  have hd : entryDuration st s ≠ 0#16 := mt (eq_zero_iff_toNat_eq_zero _).1 (by omega)
  obtain ⟨hopen, _⟩ := stageLastsExactlyItsDuration _ _ hd (hready.openStage st)
  obtain ⟨t, hrun, hframe⟩ := hopen n hn
  rw [enterStage_of_duration_ne_zero hd, hrun]
  exact ⟨⟨t.tcnt1, t.ocr1, t.tov1, t.ocf1, t.hi1, t.ocie1⟩, congrArg Host.Outcome.next hframe⟩

/-- Its duration after it is entered, the next stage is entered, be the duration 0 or not. -/
theorem runOut_enterStage {st : Stage} {s : State} (hready : PromptReady s) :
    execList (runOut (entryDuration st s).toNat) (enterStage stageDepth st s) =
      .next (enterStage stageDepth st.next (passStage st s)) := by
  by_cases hd : entryDuration st s = 0#16
  · rw [hd, ← enterStage_passes hd]
    rfl
  · obtain ⟨_, hexpires⟩ := stageLastsExactlyItsDuration _ _ hd (hready.openStage st)
    rw [enterStage_of_duration_ne_zero hd, hexpires, openStage_stage, expire_program]
    rfl

/-- The state in which Stage1 is entered, from the one in which its period is. -/
def State.afterStage0 (s : State) : State := passStage .stage0 s

/-- The state in which Stage2 is entered. -/
def State.afterStage1 (s : State) : State := passStage .stage1 s.afterStage0

/-- The state in which the next period is entered. -/
def State.afterStage2 (s : State) : State := passStage .stage2 s.afterStage1

theorem afterStage0_eq (s : State) :
    s.afterStage0 =
      { s with stage := .stage0, w := s.nw, out := { c0 := false, c1 := s.ch1En || s.out.c1 } } :=
  closeStage_stage0 _

theorem afterStage1_eq (s : State) :
    s.afterStage1 = { s with stage := .stage1, w := s.nw, out := { c0 := false, c1 := false } } := by
  rw [State.afterStage1, afterStage0_eq]
  rfl

theorem afterStage2_eq (s : State) :
    s.afterStage2 =
      { s with stage := .stage2, w := s.nw, out := { c0 := false, c1 := false }, outDone := true } := by
  rw [State.afterStage2, afterStage1_eq]
  rfl

theorem entryDuration_afterStage0 (s : State) : entryDuration .stage1 s.afterStage0 = s.nw.c1 := by
  rw [afterStage0_eq]
  rfl

theorem toNat_entryDuration_afterStage1 (s : State) :
    (entryDuration .stage2 s.afterStage1).toNat = Config.outPeriod - s.nw.c0.toNat - s.nw.c1.toNat := by
  rw [afterStage1_eq]
  simp only [entryDuration, duration, openStage, BitVec.toNat_ofNat, Config.outPeriod]
  omega

/-- Stage1 is entered after as many ticks as the first width says. -/
theorem runOut_to_stage1 {s : State} (hready : PromptReady s) :
    execList (runOut s.nw.c0.toNat) (enterStage stageDepth .stage0 s) =
      .next (enterStage stageDepth .stage1 s.afterStage0) :=
  runOut_enterStage (st := .stage0) hready

theorem runOut_to_stage2 {s : State} (hready : PromptReady s) :
    execList (runOut (s.nw.c0.toNat + s.nw.c1.toNat)) (enterStage stageDepth .stage0 s) =
      .next (enterStage stageDepth .stage2 s.afterStage1) := by
  rw [runOut_add, execList_append_next (runOut_to_stage1 hready), ← entryDuration_afterStage0]
  exact runOut_enterStage (st := .stage1) (hready.passStage .stage0)

theorem runOut_to_next_period {s : State} (hready : PromptReady s)
    (hfit : s.nw.c0.toNat + s.nw.c1.toNat ≤ Config.outPeriod) :
    execList (runOut Config.outPeriod) (enterStage stageDepth .stage0 s) =
      .next (enterStage stageDepth .stage0 s.afterStage2) := by
  have hticks : Config.outPeriod =
      s.nw.c0.toNat + s.nw.c1.toNat + (entryDuration .stage2 s.afterStage1).toNat := by
    rw [toNat_entryDuration_afterStage1]
    omega
  rw [hticks, runOut_add, execList_append_next (runOut_to_stage2 hready)]
  exact runOut_enterStage (st := .stage2) ((hready.passStage .stage0).passStage .stage1)

/-- R95: the pins at the `n`-th tick of a period, from outputs that were low. -/
structure ScheduledPins (n : Nat) (s t : State) : Prop where
  out0 : t.out.c0 = decide (n < s.nw.c0.toNat)
  out1 : t.out.c1 = (s.ch1En && decide (s.nw.c0.toNat ≤ n ∧ n < s.nw.c0.toNat + s.nw.c1.toNat))
  done : t.outDone = s.outDone
  fault : t.flt = s.flt

theorem scheduledPins_stage0 {s : State} (hlow : s.out = .both false) {n : Nat} (h0 : n < s.nw.c0.toNat)
    (τ : Timer) : ScheduledPins n s ((openStage .stage0 s).withTimer τ) where
  out0 := (decide_eq_true h0).symm
  out1 := by
    have hout1 : s.out.c1 = false := congrArg Chan.c1 hlow
    rw [decide_eq_false (by omega), Bool.and_false]
    exact hout1
  done := rfl
  fault := rfl

theorem scheduledPins_stage1 {s : State} (hlow : s.out = .both false) {n : Nat}
    (h0 : s.nw.c0.toNat ≤ n) (h1 : n < s.nw.c0.toNat + s.nw.c1.toNat) (τ : Timer) :
    ScheduledPins n s ((openStage .stage1 s.afterStage0).withTimer τ) := by
  have hout1 : s.out.c1 = false := congrArg Chan.c1 hlow
  have hdriven : (s.ch1En || s.out.c1) = s.ch1En := by rw [hout1, Bool.or_false]
  rw [afterStage0_eq]
  refine ⟨(decide_eq_false (Nat.not_lt.2 h0)).symm, ?_, rfl, rfl⟩
  rw [decide_eq_true ⟨h0, h1⟩, Bool.and_true]
  exact hdriven

theorem scheduledPins_stage2 {s : State} {n : Nat} (h : s.nw.c0.toNat + s.nw.c1.toNat ≤ n) (τ : Timer) :
    ScheduledPins n s ((openStage .stage2 s.afterStage1).withTimer τ) := by
  rw [afterStage1_eq]
  refine ⟨(decide_eq_false (by omega)).symm, ?_, rfl, rfl⟩
  rw [decide_eq_false (by omega), Bool.and_false]
  rfl

theorem runOut_scheduledPins {s : State} (hready : PromptReady s) (hlow : s.out = .both false) {n : Nat}
    (hn : n < Config.outPeriod) :
    ∃ t, execList (runOut n) (enterStage stageDepth .stage0 s) = .next t ∧ ScheduledPins n s t := by
  by_cases h0 : n < s.nw.c0.toNat
  · obtain ⟨τ, hrun⟩ := runOut_enterStage_of_lt (st := .stage0) hready h0
    exact ⟨_, hrun, scheduledPins_stage0 hlow h0 τ⟩
  by_cases h1 : n < s.nw.c0.toNat + s.nw.c1.toNat
  · have hk : n - s.nw.c0.toNat < (entryDuration .stage1 s.afterStage0).toNat := by
      rw [entryDuration_afterStage0]
      omega
    obtain ⟨τ, hrun⟩ := runOut_enterStage_of_lt (hready.passStage .stage0) hk
    refine ⟨_, ?_, scheduledPins_stage1 hlow (Nat.not_lt.1 h0) h1 τ⟩
    rw [← Nat.add_sub_cancel' (Nat.not_lt.1 h0), runOut_add,
      execList_append_next (runOut_to_stage1 hready)]
    exact hrun
  · have hk : n - (s.nw.c0.toNat + s.nw.c1.toNat) < (entryDuration .stage2 s.afterStage1).toNat := by
      rw [toNat_entryDuration_afterStage1]
      omega
    obtain ⟨τ, hrun⟩ := runOut_enterStage_of_lt ((hready.passStage .stage0).passStage .stage1) hk
    refine ⟨_, ?_, scheduledPins_stage2 (Nat.not_lt.1 h1) τ⟩
    rw [← Nat.add_sub_cancel' (Nat.not_lt.1 h1), runOut_add,
      execList_append_next (runOut_to_stage2 hready)]
    exact hrun

/-- R116, R118: no procedure of the generator raises a fault. -/
theorem enterStage_flt (n : Nat) (st : Stage) (s : State) : (enterStage n st s).flt = s.flt :=
  (congrArg State.flt (enterStage_frame n st s) :)

/-- Settles O47: OUT_START enters Stage0 with the outputs low, and the three stages share the period out. -/
theorem periodIsExactUnderPromptService : Obligations.PeriodIsExactUnderPromptService := by
  intro s hmode hrun hie hidle hfit hinv
  obtain ⟨hnw, _⟩ := hfit
  have hready : PromptReady s.started := ⟨rfl, hie, rfl, hidle⟩
  have hstart := exec_outStart_of_enabled hmode hrun
  refine ⟨fun n hn => ?_, ?_⟩
  · obtain ⟨t, ht, hout0, hout1, hdone, hflt⟩ :=
      runOut_scheduledPins hready (hinv.idle hrun).outputs_low hn
    exact ⟨t, (execList_cons_next hstart _).trans ht, hout0, hout1, hdone, hflt⟩
  · have hperiod := runOut_to_next_period hready hnw
    have hlatched := enterStage_stage0_w s.started.afterStage2
    have hflt := enterStage_flt stageDepth .stage0 s.started.afterStage2
    have hdone := enterStage_stage0_outDone s.started.afterStage2
    rw [afterStage2_eq] at hperiod hlatched hflt hdone
    exact ⟨_, (execList_cons_next hstart _).trans hperiod, hdone, hflt, hlatched⟩

end Sys2Proof.Machine
end

section
/-! PROOFS. The system operations (spec 46_system.md): what IRQ_MASK, IRQ_UNMASK, BOOT and NVM_SET do (R110
to R114), that no operation but RESET clears a fault bit (R116), that every step keeps the engine's
invariant, and that a halted engine stays halted and inert until RESET (R115). -/

namespace Sys2Proof.Machine

/-! ### IRQ_MASK and IRQ_UNMASK (R111, R112) -/

theorem exec_irqMask_of_active {s : State} (h : s.engSt = .active) :
    exec .irqMask s = .next { s with ie := false } := congrArg Host.Outcome.next (if_pos h)

theorem exec_irqUnmask_of_active {s : State} (h : s.engSt = .active) :
    exec .irqUnmask s = .next { s with ie := true } := congrArg Host.Outcome.next (if_pos h)

theorem exec_irqMask_of_not_active {s : State} (h : s.engSt ≠ .active) : exec .irqMask s = .next s :=
  congrArg Host.Outcome.next (if_neg h)

theorem exec_irqUnmask_of_not_active {s : State} (h : s.engSt ≠ .active) : exec .irqUnmask s = .next s :=
  congrArg Host.Outcome.next (if_neg h)

/-- Settles O52, in `ACTIVE` and outside it. -/
theorem maskAndUnmaskWriteIE : Obligations.MaskAndUnmaskWriteIE :=
  ⟨spells_of_encode_eq rfl rfl, spells_of_encode_eq rfl rfl, rfl, rfl,
    fun _ h => ⟨exec_irqMask_of_active h, exec_irqUnmask_of_active h⟩,
    fun _ h => ⟨exec_irqMask_of_not_active h, exec_irqUnmask_of_not_active h⟩⟩

/-! ### NVM_SET (R113) -/

theorem exec_nvmSet_of_lt {i : Byte} (h : i.toNat < 13) (b : Byte) (s : State) :
    exec (.nvmSet i b) s = .next { s with nvm := nvmWrite s.nvm ⟨i.toNat, h⟩ b } := dif_pos h

theorem exec_nvmSet_of_not_lt {i : Byte} (h : ¬i.toNat < 13) (b : Byte) (s : State) :
    exec (.nvmSet i b) s = .fault (.nvmOffsetAbsent i) := dif_neg h

/-- An offset of the record is its own byte. -/
theorem toNat_ofNat_offset (a : Fin 13) : (BitVec.ofNat 8 a.val).toNat = a.val :=
  Nat.mod_eq_of_lt (by omega)

theorem exec_nvmSet_offset (a : Fin 13) (b : Byte) (s : State) :
    exec (.nvmSet (BitVec.ofNat 8 a.val) b) s = .next { s with nvm := nvmWrite s.nvm a b } := by
  have hlt : (BitVec.ofNat 8 a.val).toNat < 13 := by rw [toNat_ofNat_offset]; exact a.isLt
  rw [exec_nvmSet_of_lt hlt, show (⟨_, hlt⟩ : Fin 13) = a from Fin.ext (toNat_ofNat_offset a)]

/-- Settles O53: the store by the laws of `NvmWrite` (R44). -/
theorem nvmSetWritesOneByte : Obligations.NvmSetWritesOneByte := by
  refine ⟨fun i b hi => spells_of_encode_eq (decide_eq_true hi) rfl, fun _ _ => rfl, ?_, ?_⟩
  · intro a b s hnvm
    exact ⟨_, exec_nvmSet_offset a b s, nvmRead_nvmWrite_same hnvm a b,
      fun x hx => nvmRead_nvmWrite_of_ne s.nvm b hx, rfl⟩
  · intro i b s hi
    exact exec_nvmSet_of_not_lt (by omega) b s

/-! ### BOOT (R110, R114) -/

/-- The state in which Load has taken the record from the store. -/
def State.loaded (s : State) : State :=
  { s with
    mode := .running
    cmin := storedMin s.nvm
    cmax := storedMax s.nvm
    cmid := storedMid s.nvm
    thr := lowThrottle (storedMin s.nvm).c0 (storedMax s.nvm).c0
    recValid := true }

/-- The state of an engine halted by a wrong checksum (R115, R117). -/
def State.halt (s : State) : State :=
  raiseFault .checksumMismatch { s with mode := .running, engSt := .halted }

theorem exec_boot_calibrating {s : State} (hst : s.engSt = .preboot) :
    exec (.boot true) s = .next (activate { s with mode := .calibrating }) := by
  simp [exec, execBoot, hst]

theorem exec_boot_of_not_recordValid {s : State} (hst : s.engSt = .preboot)
    (hvalid : recordValid s.params.chkSeed s.nvm ≠ true) : exec (.boot false) s = .next s.halt := by
  simp [exec, execBoot, load, hst, hvalid, State.halt]

/-- R110: all that BOOT can do. -/
theorem exec_boot_cases {j : Bool} {s t : State} (h : exec (.boot j) s = .next t) :
    (s.engSt ≠ .preboot ∧ t = s) ∨
    (s.engSt = .preboot ∧ t = activate { s with mode := .calibrating }) ∨
    (s.engSt = .preboot ∧ t = activate s.loaded) ∨
    (s.engSt = .preboot ∧ t = s.halt) := by
  by_cases hst : s.engSt = .preboot
  · right
    cases j with
    | true =>
      cases (exec_boot_calibrating hst).symm.trans h
      exact .inl ⟨hst, rfl⟩
    | false =>
      by_cases hvalid : recordValid s.params.chkSeed s.nvm = true
      · cases (exec_boot_of_recordValid hst hvalid).symm.trans h
        exact .inr (.inl ⟨hst, rfl⟩)
      · cases (exec_boot_of_not_recordValid hst hvalid).symm.trans h
        exact .inr (.inr ⟨hst, rfl⟩)
  · cases (exec_boot_of_ne_preboot j hst).symm.trans h
    exact .inl ⟨hst, rfl⟩

/-- R38: the low byte of a field stands at its lower offset. -/
theorem lowByte_nvmReadWord (m : Memory) (lo hi : Fin 13) : lowByte (nvmReadWord m lo hi) = nvmRead m lo :=
  lowByte_joinBytes _ _

theorem highByte_nvmReadWord (m : Memory) (lo hi : Fin 13) :
    highByte (nvmReadWord m lo hi) = nvmRead m hi :=
  highByte_joinBytes _ _

/-- Settles O51: the four ways of BOOT, the loaded fields byte by byte. -/
theorem bootDecidesTheMode : Obligations.BootDecidesTheMode := by
  refine ⟨spells_of_encode_eq rfl rfl, spells_of_encode_eq rfl rfl, fun _ => rfl,
    fun j _ hst => exec_boot_of_ne_preboot j hst, fun _ hst => exec_boot_calibrating hst, ?_, ?_⟩
  · intro s hst hsum
    have hlow := lowByte_nvmReadWord s.nvm
    have hhigh := highByte_nvmReadWord s.nvm
    exact ⟨_, exec_boot_of_recordValid hst ((recordValid_iff s).2 hsum), rfl, rfl, rfl, rfl, rfl, rfl,
      hlow 0 1, hhigh 0 1, hlow 2 3, hhigh 2 3, hlow 4 5, hhigh 4 5,
      hlow 6 7, hhigh 6 7, hlow 8 9, hhigh 8 9, hlow 10 11, hhigh 10 11,
      toNat_lowThrottle _ _, rfl, fun _ => rfl⟩
  · intro s hst hsum
    exact exec_boot_of_not_recordValid hst (mt (recordValid_iff s).1 hsum)

/-! ### Fault bits are raised, never cleared (R25, R116) -/

/-- The fault bits of `t` are those of `s`, with at most one of R116's raised. -/
def RaisesAtMostOne (s t : State) : Prop := t.flt = s.flt ∨ ∃ f : FaultName, t.flt = s.flt ||| faultBit f

theorem setW_raisesAtMostOne (a b : Word) (s : State) : RaisesAtMostOne s (setW a b s) := by
  rcases setW_cases a b s with ⟨_, e⟩ | ⟨_, e⟩ <;> rw [e]
  · exact .inl rfl
  · exact .inr ⟨.widthRange, rfl⟩

theorem mixOp_raisesAtMostOne (p q : Word) (s : State) : RaisesAtMostOne s (mixOp p q s) :=
  setW_raisesAtMostOne _ _ { s with fresh := .both false }

theorem exec_boot_raisesAtMostOne {j : Bool} {s t : State} (h : exec (.boot j) s = .next t) :
    RaisesAtMostOne s t := by
  rcases exec_boot_cases h with ⟨_, rfl⟩ | ⟨_, rfl⟩ | ⟨_, rfl⟩ | ⟨_, rfl⟩
  · exact .inl rfl
  · exact .inl rfl
  · exact .inl rfl
  · exact .inr ⟨.checksumMismatch, rfl⟩

theorem exec_main_raisesAtMostOne {i : Instr} {s t : State} (h : exec i s = .next t)
    (ha : agent i = .main) : RaisesAtMostOne s t := by
  cases i with
  | mix =>
    simp only [exec, execMix] at h
    split at h <;> cases h
    · exact mixOp_raisesAtMostOne _ _ s
    · exact .inl rfl
  | setWidths a b =>
    simp only [exec, execSetWidths] at h
    split at h <;> cases h
    · exact setW_raisesAtMostOne a b s
    · exact .inl rfl
  | xform p q =>
    simp only [exec, execXform] at h
    split at h <;> cases h
    · exact mixOp_raisesAtMostOne p q (s.withWidths p q)
    · exact .inl rfl
  | boot j => exact exec_boot_raisesAtMostOne h
  | now => exact .inl (congrArg State.flt (exec_now_frame h) :)
  | irqMask => exact .inl (congrArg State.flt (exec_irqMask_frame h) :)
  | irqUnmask => exact .inl (congrArg State.flt (exec_irqUnmask_frame h) :)
  | outStart => exact .inl (congrArg State.flt (exec_outStart_frame h) :)
  | outPoll => exact .inl (congrArg State.flt (exec_outPoll_frame h) :)
  | outCfg e => exact .inl (congrArg State.flt (exec_outCfg_frame e h) :)
  | takeStep c => exact .inl (congrArg State.flt (exec_takeStep_frame c h) :)
  | tryTake c => exact .inl (congrArg State.flt (exec_tryTake_frame c h) :)
  | calStep c => exact .inl (congrArg State.flt (exec_calStep_frame c h) :)
  | calSample c w => exact .inl (congrArg State.flt (exec_calSample_frame c w h) :)
  | _ => simp [agent] at ha

/-- R116: all that an operation other than RESET can do to the fault bits. -/
theorem exec_raisesAtMostOne {i : Instr} {s t : State} (hreset : i ≠ .reset) (h : exec i s = .next t) :
    RaisesAtMostOne s t := by
  cases ha : agent i with
  | hw => exact (exec_hw_flt h ha).imp id fun e => ⟨.outputHazard, e⟩
  | env => exact .inl (congrArg State.flt (exec_env_frame hreset h ha) :)
  | irq => exact .inl (congrArg State.flt (exec_irq_frame h ha) :)
  | main => exact exec_main_raisesAtMostOne h ha

theorem hasFault_or (x y : BitVec 3) (f : FaultName) :
    hasFault (x ||| y) f = (hasFault x f || hasFault y f) := by
  cases f <;> exact BitVec.getLsbD_or

/-- R25, R116: a fault bit is sticky. -/
theorem hasFault_exec {i : Instr} {s t : State} {f : FaultName} (hreset : i ≠ .reset)
    (h : exec i s = .next t) (hf : hasFault s.flt f = true) : hasFault t.flt f = true := by
  rcases exec_raisesAtMostOne hreset h with e | ⟨g, e⟩ <;> rw [e]
  · exact hf
  · rw [hasFault_or, hf, Bool.true_or]

/-! ### The engine's invariant (R87, R104, R115, R134) -/

/-- The registers of the engine's invariant, but for the fault bit. -/
def engineRegisters (s : State) :
    EngSt × Mode × CalState × Bool × Bool × Bool × Chan Bool × Bool × Bool × Bool :=
  (s.engSt, s.mode, s.calState, s.ind, s.ie, s.run, s.out, s.recValid, s.ocie1, s.toie1)

theorem engineRegisters_eq_iff {s t : State} :
    engineRegisters t = engineRegisters s ↔
      t.engSt = s.engSt ∧ t.mode = s.mode ∧ t.calState = s.calState ∧ t.ind = s.ind ∧ t.ie = s.ie ∧
        t.run = s.run ∧ t.out = s.out ∧ t.recValid = s.recValid ∧ t.ocie1 = s.ocie1 ∧
        t.toie1 = s.toie1 := by
  simp [engineRegisters]

theorem Inert.of_eq {s t : State} (hs : Inert s) (h : engineRegisters t = engineRegisters s) :
    Inert t := by
  obtain ⟨_, _, _, hind, hie, hrun, hout, hrec, hocie, _⟩ := engineRegisters_eq_iff.1 h
  exact ⟨hie.trans hs.masked, hrun.trans hs.stopped, hout.trans hs.outputs_low,
    hind.trans hs.indicator_off, hrec.trans hs.no_record, hocie.trans hs.no_compare⟩

/-- The invariant reads those registers, and the bit of ChecksumMismatch where the engine is halted. -/
theorem EngineInv.of_eq {s t : State} (hs : EngineInv s) (h : engineRegisters t = engineRegisters s)
    (hflt : hasFault s.flt .checksumMismatch = true → hasFault t.flt .checksumMismatch = true) :
    EngineInv t := by
  obtain ⟨heng, hmode, hcal, hind, _, hrun, hout, _, hocie, htoie⟩ := engineRegisters_eq_iff.1 h
  have hrunning : isRunning t = isRunning s := by simp only [isRunning, heng, hmode]
  have hcalibrating : isCalibrating t = isCalibrating s := by simp only [isCalibrating, heng, hmode]
  refine ⟨fun hpreboot => ?_, fun hhalted => ?_, fun hruns => ?_, fun hmoved => ?_, ?_, fun hstopped => ?_⟩
  · exact (hs.preboot_inert (heng ▸ hpreboot)).of_eq h
  · obtain ⟨hinert, hmode', hbit⟩ := hs.halted_inert (heng ▸ hhalted)
    exact ⟨hinert.of_eq h, hmode.trans hmode', hflt hbit⟩
  · exact hrunning.trans (hs.run_mode (hrun ▸ hruns))
  · exact hcalibrating.trans (hs.calibration_mode (hcal ▸ hmoved))
  · rw [hind, hcal, hs.indicator_iff_done]
  · rw [hout, hocie, htoie]
    exact hs.stopped_low (hrun ▸ hstopped)

/-- What the invariant asks of an active engine. -/
theorem engineInv_of_active {s : State} (hactive : s.engSt = .active)
    (hrun : s.run = true → isRunning s = true)
    (hcal : s.calState ≠ .c0High → isCalibrating s = true)
    (hind : s.ind = decide (s.calState = .done))
    (hlow : s.run = false → s.out = .both false ∧ s.ocie1 = false ∧ s.toie1 = false) : EngineInv s where
  preboot_inert h := by rw [hactive] at h; cases h
  halted_inert h := by rw [hactive] at h; cases h
  run_mode := hrun
  calibration_mode := hcal
  indicator_iff_done := hind
  stopped_low := hlow

theorem EngineInv.stopped {s : State} (hs : EngineInv s) (h : isRunning s = false) : s.run = false := by
  rw [← Bool.not_eq_true] at h ⊢
  exact mt hs.run_mode h

theorem EngineInv.calState_eq {s : State} (hs : EngineInv s) (h : isCalibrating s = false) :
    s.calState = .c0High := by
  rw [← Bool.not_eq_true] at h
  exact not_not.1 (mt hs.calibration_mode h)

/-- R24: the two modes exclude each other. -/
theorem isCalibrating_eq_false_of_isRunning {s : State} (h : isRunning s = true) :
    isCalibrating s = false :=
  (not_isCalibrating_iff s).2 (.inr ((isRunning_iff s).1 h).2)

theorem isRunning_eq_false_of_isCalibrating {s : State} (h : isCalibrating s = true) :
    isRunning s = false :=
  (not_isRunning_iff s).2 (.inr ((isCalibrating_iff s).1 h).2)

/-- The registers of the invariant that say what the engine is doing. -/
def modeRegisters (s : State) : EngSt × Mode × CalState × Bool := (s.engSt, s.mode, s.calState, s.ind)

/-- What the generator does in Running mode while it runs is free. -/
theorem EngineInv.of_running {s t : State} (hs : EngineInv s) (hrunning : isRunning s = true)
    (hruns : t.run = true) (h : modeRegisters t = modeRegisters s) : EngineInv t := by
  obtain ⟨heng, hmode, hcal, hind⟩ : t.engSt = s.engSt ∧ t.mode = s.mode ∧ t.calState = s.calState ∧
    t.ind = s.ind := by simpa [modeRegisters] using h
  obtain ⟨hactive, hrunmode⟩ := (isRunning_iff s).1 hrunning
  have hfresh := hs.calState_eq (isCalibrating_eq_false_of_isRunning hrunning)
  refine engineInv_of_active (heng.trans hactive) (fun _ => ?_) (fun hmoved => ?_) ?_ (fun hstopped => ?_)
  · exact (isRunning_iff t).2 ⟨heng.trans hactive, hmode.trans hrunmode⟩
  · exact absurd (hcal.trans hfresh) hmoved
  · rw [hind, hcal, hs.indicator_iff_done]
  · exact absurd (hruns.symm.trans hstopped) (by decide)

/-! ### The interrupt handlers keep it (R100, R101) -/

theorem EngineInv.run_of_eligible {s : State} {src : Source} (hs : EngineInv s)
    (hsrc : src = .outputOverflow ∨ src = .outputCompare) (h : eligible s src = true) : s.run = true := by
  obtain ⟨_, henabled, _⟩ := (eligible_iff s src).1 h
  by_contra hstopped
  obtain ⟨_, hocie, htoie⟩ := hs.stopped_low (Bool.eq_false_iff.2 hstopped)
  rcases hsrc with rfl | rfl
  · exact absurd (htoie.symm.trans henabled) (by decide)
  · exact absurd (hocie.symm.trans henabled) (by decide)

theorem engineInv_exec_ovf1Svc {s t : State} (hs : EngineInv s) (h : exec .ovf1Svc s = .next t) :
    EngineInv t := by
  cases helig : eligible s .outputOverflow with
  | false =>
    cases (exec_ovf1Svc_of_not_eligible helig).symm.trans h
    exact hs
  | true =>
    have hruns := hs.run_of_eligible (.inl rfl) helig
    rw [exec_ovf1Svc_frame h]
    exact hs.of_running (hs.run_mode hruns) hruns rfl

theorem engineInv_exec_cmp1Svc {s t : State} (hs : EngineInv s) (h : exec .cmp1Svc s = .next t) :
    EngineInv t := by
  cases helig : eligible s .outputCompare with
  | false =>
    cases (exec_cmp1Svc_of_not_eligible helig).symm.trans h
    exact hs
  | true =>
    have hruns := hs.run_of_eligible (.inr rfl) helig
    rw [exec_cmp1Svc_frame h]
    exact hs.of_running (hs.run_mode hruns) hruns rfl

theorem engineInv_exec_irq {i : Instr} {s t : State} (hs : EngineInv s) (h : exec i s = .next t)
    (ha : agent i = .irq) : EngineInv t := by
  cases i with
  | ovf1Svc => exact engineInv_exec_ovf1Svc hs h
  | cmp1Svc => exact engineInv_exec_cmp1Svc hs h
  | ovf0Svc => rw [exec_ovf0Svc_frame h]; exact hs.of_eq rfl id
  | capture => rw [exec_capture_frame h]; exact hs.of_eq rfl id
  | pubStep c => rw [exec_pubStep_frame c h]; exact hs.of_eq rfl id
  | publish c v => rw [exec_publish_frame c v h]; exact hs.of_eq rfl id
  | _ => simp [agent] at ha

/-! ### The operations of MAIN keep it (R82, R83, R104, R110 to R112) -/

theorem engineInv_exec_outStart {s t : State} (hs : EngineInv s) (h : exec .outStart s = .next t) :
    EngineInv t := by
  cases hrunning : isRunning s with
  | false =>
    cases (exec_outStart_of_disabled (.inl hrunning)).symm.trans h
    exact hs
  | true =>
    rcases exec_outStart_cases h with rfl | ⟨_, hruns⟩
    · exact hs
    · exact hs.of_running hrunning hruns (congrArg modeRegisters (exec_outStart_frame h) :)

/-- `IE` is free in an active engine. -/
theorem EngineInv.withIE {s : State} (hs : EngineInv s) (hactive : s.engSt = .active) (b : Bool) :
    EngineInv { s with ie := b } :=
  engineInv_of_active hactive hs.run_mode hs.calibration_mode hs.indicator_iff_done hs.stopped_low

theorem engineInv_exec_irqMask {s t : State} (hs : EngineInv s) (h : exec .irqMask s = .next t) :
    EngineInv t := by
  by_cases hactive : s.engSt = .active
  · cases (exec_irqMask_of_active hactive).symm.trans h
    exact hs.withIE hactive false
  · cases (exec_irqMask_of_not_active hactive).symm.trans h
    exact hs

theorem engineInv_exec_irqUnmask {s t : State} (hs : EngineInv s) (h : exec .irqUnmask s = .next t) :
    EngineInv t := by
  by_cases hactive : s.engSt = .active
  · cases (exec_irqUnmask_of_active hactive).symm.trans h
    exact hs.withIE hactive true
  · cases (exec_irqUnmask_of_not_active hactive).symm.trans h
    exact hs

/-- The registers of the invariant that BOOT does not write. -/
def bootKeeps (s : State) : CalState × Bool × Bool × Chan Bool × Bool × Bool :=
  (s.calState, s.ind, s.run, s.out, s.ocie1, s.toie1)

/-- R110: before BOOT the engine is inert and calibration has not begun, so either mode may begin. -/
theorem EngineInv.of_booted {s t : State} (hs : EngineInv s) (hpreboot : s.engSt = .preboot)
    (hactive : t.engSt = .active) (h : bootKeeps t = bootKeeps s) : EngineInv t := by
  obtain ⟨hcal, hind, hrun, hout, hocie, htoie⟩ : t.calState = s.calState ∧ t.ind = s.ind ∧
    t.run = s.run ∧ t.out = s.out ∧ t.ocie1 = s.ocie1 ∧ t.toie1 = s.toie1 := by
    simpa [bootKeeps] using h
  have hnot : s.engSt ≠ .active := by rw [hpreboot]; decide
  have hstopped := hs.stopped ((not_isRunning_iff s).2 (.inl hnot))
  have hfresh := hs.calState_eq ((not_isCalibrating_iff s).2 (.inl hnot))
  refine engineInv_of_active hactive (fun hruns => ?_) (fun hmoved => ?_) ?_ (fun _ => ?_)
  · exact absurd (hruns.symm.trans (hrun.trans hstopped)) (by decide)
  · exact absurd (hcal.trans hfresh) hmoved
  · rw [hind, hcal, hs.indicator_iff_done]
  · rw [hout, hocie, htoie]
    exact hs.stopped_low hstopped

/-- R115, R117: a wrong checksum halts an engine that is still inert. -/
theorem engineInv_halt {s : State} (hs : EngineInv s) (hpreboot : s.engSt = .preboot) :
    EngineInv s.halt := by
  obtain ⟨hmasked, hstopped, hlow, hoff, hrec, hcompare⟩ := hs.preboot_inert hpreboot
  have hfresh := hs.calState_eq
    ((not_isCalibrating_iff s).2 (.inl (by rw [hpreboot]; decide)))
  refine ⟨nofun, fun _ => ?_, fun hruns => ?_, fun hmoved => ?_, hs.indicator_iff_done, hs.stopped_low⟩
  · refine ⟨⟨hmasked, hstopped, hlow, hoff, hrec, hcompare⟩, rfl, ?_⟩
    exact (hasFault_or s.flt (faultBit .checksumMismatch) .checksumMismatch).trans (Bool.or_true _)
  · exact absurd (hruns.symm.trans hstopped) (by decide)
  · exact absurd hfresh hmoved

theorem engineInv_exec_boot {j : Bool} {s t : State} (hs : EngineInv s)
    (h : exec (.boot j) s = .next t) : EngineInv t := by
  rcases exec_boot_cases h with ⟨_, rfl⟩ | ⟨hpreboot, rfl⟩ | ⟨hpreboot, rfl⟩ | ⟨hpreboot, rfl⟩
  · exact hs
  · exact hs.of_booted hpreboot rfl rfl
  · exact hs.of_booted hpreboot rfl rfl
  · exact engineInv_halt hs hpreboot

theorem calNext_ne_done_of_high_or_wait {st : CalState} (h : calKind st = .high ∨ calKind st = .wait) :
    st ≠ .done ∧ calNext st ≠ .done := by
  cases st with
  | c1Low | done | c0Low => simp [calKind] at h
  | _ => decide

/-- R87: Finish, which alone enters `DONE`, is what turns the indicator on. -/
theorem indicator_calSampleOp (c : Ch) (w : Word) {s : State}
    (hs : s.ind = decide (s.calState = .done)) :
    (calSampleOp c w s).ind = decide ((calSampleOp c w s).calState = .done) := by
  have hmoves {st : CalState} (hbefore : s.calState ≠ .done) (hafter : st ≠ .done) :
      s.ind = decide (st = .done) := by rw [hs, decide_eq_false hbefore, decide_eq_false hafter]
  rcases calSampleOp_cases c w s with ⟨_, h⟩ | ⟨_, _, _, h⟩ | ⟨_, _, _, h⟩ | ⟨_, hkind, _, _, h⟩ |
    ⟨_, _, _, h⟩ | ⟨_, hst, _, _, h⟩ | ⟨_, _, _, _, h⟩ | ⟨_, _, _, h⟩ | ⟨_, hkind, _, h⟩ <;> rw [h]
  · exact hs
  · exact hs
  · exact hs
  · obtain ⟨hbefore, hafter⟩ := calNext_ne_done_of_high_or_wait (.inl hkind)
    exact hmoves hbefore hafter
  · exact hs
  · exact hmoves (by rw [hst]; decide) nofun
  · rfl
  · exact hs
  · obtain ⟨hbefore, hafter⟩ := calNext_ne_done_of_high_or_wait (.inr hkind)
    exact hmoves hbefore hafter

theorem engineInv_calSampleOp (c : Ch) (w : Word) {s : State} (hs : EngineInv s)
    (hcal : isCalibrating s = true) : EngineInv (calSampleOp c w s) := by
  have hind := indicator_calSampleOp c w hs.indicator_iff_done
  have hstopped := hs.stopped (isRunning_eq_false_of_isCalibrating hcal)
  obtain ⟨hactive, _⟩ := (isCalibrating_iff s).1 hcal
  rw [calSampleOp_frame]
  exact engineInv_of_active hactive (fun hruns => absurd (hruns.symm.trans hstopped) (by decide))
    (fun _ => hcal) hind hs.stopped_low

theorem engineInv_exec_calStep {c : Ch} {s t : State} (hs : EngineInv s)
    (h : exec (.calStep c) s = .next t) : EngineInv t := by
  by_cases hdisabled : isCalibrating s = false ∨ s.fresh.get c = false
  · cases (exec_calStep_of_disabled hdisabled).symm.trans h
    exact hs
  · obtain ⟨hcal, hfresh⟩ : isCalibrating s = true ∧ s.fresh.get c = true := by simpa using hdisabled
    cases (exec_calStep_of_fresh hcal hfresh).symm.trans h
    exact engineInv_calSampleOp c _ (s := { s with fresh := s.fresh.set c false }) (hs.of_eq rfl id) hcal

theorem engineInv_exec_calSample {c : Ch} {w : Word} {s t : State} (hs : EngineInv s)
    (h : exec (.calSample c w) s = .next t) : EngineInv t := by
  cases hcal : isCalibrating s with
  | false =>
    cases (exec_calSample_of_not_calibrating w hcal).symm.trans h
    exact hs
  | true =>
    cases (exec_calSample_of_calibrating w hcal).symm.trans h
    exact engineInv_calSampleOp c w (s := s.withSample c w) (hs.of_eq rfl id) hcal

theorem engineInv_exec_main {i : Instr} {s t : State} (hs : EngineInv s) (h : exec i s = .next t)
    (ha : agent i = .main) : EngineInv t := by
  have hflt : hasFault s.flt .checksumMismatch = true → hasFault t.flt .checksumMismatch = true :=
    hasFault_exec (by rintro rfl; cases ha) h
  cases i with
  | outStart => exact engineInv_exec_outStart hs h
  | irqMask => exact engineInv_exec_irqMask hs h
  | irqUnmask => exact engineInv_exec_irqUnmask hs h
  | boot j => exact engineInv_exec_boot hs h
  | calStep c => exact engineInv_exec_calStep hs h
  | calSample c w => exact engineInv_exec_calSample hs h
  | now => exact hs.of_eq (congrArg engineRegisters (exec_now_frame h) :) hflt
  | outPoll => exact hs.of_eq (congrArg engineRegisters (exec_outPoll_frame h) :) hflt
  | outCfg e => exact hs.of_eq (congrArg engineRegisters (exec_outCfg_frame e h) :) hflt
  | takeStep c => exact hs.of_eq (congrArg engineRegisters (exec_takeStep_frame c h) :) hflt
  | tryTake c => exact hs.of_eq (congrArg engineRegisters (exec_tryTake_frame c h) :) hflt
  | mix => exact hs.of_eq (congrArg engineRegisters (exec_mix_frame h) :) hflt
  | setWidths a b => exact hs.of_eq (congrArg engineRegisters (exec_setWidths_frame a b h) :) hflt
  | xform p q => exact hs.of_eq (congrArg engineRegisters (exec_xform_frame p q h) :) hflt
  | _ => simp [agent] at ha

/-! ### Every operation keeps it -/

theorem engineInv_exec {i : Instr} {s t : State} (hs : EngineInv s) (h : exec i s = .next t) :
    EngineInv t := by
  by_cases hreset : i = .reset
  · subst hreset
    rw [exec_reset_frame h]
    exact engineInv_reset.of_eq rfl id
  have hflt : hasFault s.flt .checksumMismatch = true → hasFault t.flt .checksumMismatch = true :=
    hasFault_exec hreset h
  cases ha : agent i with
  | hw => exact hs.of_eq (congrArg engineRegisters (exec_hw_frame h ha) :) hflt
  | env => exact hs.of_eq (congrArg engineRegisters (exec_env_frame hreset h ha) :) hflt
  | irq => exact engineInv_exec_irq hs h ha
  | main => exact engineInv_exec_main hs h ha

/-- Settles O55: the invariant reads no byte of the stream, and every operation keeps it. -/
theorem stepKeepsEngineStates : Obligations.StepKeepsEngineStates := by
  intro s t hs h
  obtain ⟨i, rest, _, hexec⟩ := exists_exec_of_step h
  exact engineInv_exec (s := { s with stream := rest }) (hs.of_eq rfl id) hexec

/-! ### A halted engine (R115) -/

/-- R24, R110: only RESET and BOOT write `ENG_ST`, and BOOT only before it has been performed. -/
theorem exec_engSt {i : Instr} {s t : State} (hreset : i ≠ .reset) (hst : s.engSt ≠ .preboot)
    (h : exec i s = .next t) : t.engSt = s.engSt := by
  by_cases hboot : ∃ j : Bool, i = .boot j
  · obtain ⟨j, rfl⟩ := hboot
    cases (exec_boot_of_ne_preboot j hst).symm.trans h
    rfl
  rcases exec_calibration_cases hreset (not_exists.1 hboot) h with hview | ⟨c, w, u, hview, _, rfl⟩
  · exact (calibrationView_eq_iff.1 hview).1
  · have hsample : (calSampleOp c w u).engSt = u.engSt :=
      (congrArg State.engSt (calSampleOp_frame c w u) :)
    exact hsample.trans (calibrationView_eq_iff.1 hview).1

/-- R102: no widths are requested outside Running mode. -/
theorem exec_nw_of_not_running {i : Instr} {s t : State} (hreset : i ≠ .reset)
    (hrunning : isRunning s = false) (h : exec i s = .next t) : t.nw = s.nw := by
  by_cases hrequest : RequestsWidths i
  · have hsame : exec i s = .next s := by
      rcases hrequest with rfl | ⟨a, b, rfl⟩ | ⟨p, q, rfl⟩
      · exact exec_mix_of_disabled (.inl hrunning)
      · exact exec_setWidths_of_not_running a b hrunning
      · exact exec_xform_of_not_running p q hrunning
    cases hsame.symm.trans h
    rfl
  · exact exec_nw hreset hrequest h

/-- What the interrupt handlers have counted and seen of the input. -/
def inputRegisters (s : State) : Byte × Chan Bool := (s.ticks, s.prev)

/-- R122: while interrupts are masked, no handler has an effect on them. -/
theorem exec_inputRegisters_of_masked {i : Instr} {s t : State} (hreset : i ≠ .reset)
    (hmasked : s.ie = false) (h : exec i s = .next t) : inputRegisters t = inputRegisters s := by
  have hineligible (src : Source) : eligible s src = false := (not_eligible_iff s src).2 (.inl hmasked)
  cases ha : agent i with
  | hw => exact (congrArg inputRegisters (exec_hw_frame h ha) :)
  | env => exact (congrArg inputRegisters (exec_env_frame hreset h ha) :)
  | main =>
    by_cases hstart : i = .outStart
    · subst hstart
      exact (congrArg inputRegisters (exec_outStart_frame h) :)
    · exact (congrArg inputRegisters (exec_main_frame h ha hstart) :)
  | irq =>
    cases i with
    | ovf0Svc => cases h; exact congrArg inputRegisters (takeInterrupt_of_not_eligible _ (hineligible _))
    | capture => cases h; exact congrArg inputRegisters (takeInterrupt_of_not_eligible _ (hineligible _))
    | ovf1Svc => exact (congrArg inputRegisters (exec_ovf1Svc_frame h) :)
    | cmp1Svc => exact (congrArg inputRegisters (exec_cmp1Svc_frame h) :)
    | pubStep c => exact (congrArg inputRegisters (exec_pubStep_frame c h) :)
    | publish c v => exact (congrArg inputRegisters (exec_publish_frame c v h) :)
    | _ => simp [agent] at ha

/-- A halted engine that is inert, with the width request and the input registers of `s` (R115). -/
structure HaltedAsIn (s t : State) : Prop where
  inv : EngineInv t
  halted : t.engSt = .halted
  same_request : t.nw = s.nw
  same_input : inputRegisters t = inputRegisters s

theorem HaltedAsIn.of_exec {i : Instr} {s t u : State} (ht : HaltedAsIn s t) (hreset : i ≠ .reset)
    (h : exec i t = .next u) : HaltedAsIn s u := by
  obtain ⟨hinv, hhalted, hnw, hinput⟩ := ht
  have hrunning : isRunning t = false := (not_isRunning_iff t).2 (.inl (by rw [hhalted]; decide))
  obtain ⟨hinert, _⟩ := hinv.halted_inert hhalted
  exact {
    inv := engineInv_exec hinv h
    halted := (exec_engSt hreset (by rw [hhalted]; decide) h).trans hhalted
    same_request := (exec_nw_of_not_running hreset hrunning h).trans hnw
    same_input := (exec_inputRegisters_of_masked hreset hinert.masked h).trans hinput }

theorem HaltedAsIn.of_execList {l : List Instr} {s t : State} (ht : HaltedAsIn s t) (hl : noReset l) :
    ∃ u : State, execList l t = .next u ∧ HaltedAsIn s u := by
  induction l generalizing t with
  | nil => exact ⟨t, rfl, ht⟩
  | cons i l ih =>
    obtain ⟨⟨hlegal, hreset⟩, hrest⟩ := List.forall_mem_cons.1 hl
    obtain ⟨v, hv⟩ := exec_next hlegal t
    obtain ⟨u, hu, hhalted⟩ := ih (ht.of_exec hreset hv) hrest
    exact ⟨u, (execList_cons_next hv l).trans hu, hhalted⟩

/-- Settles O56, by induction over the operations: each leaves the engine as halted as it was. -/
theorem haltedStaysInertUntilReset : Obligations.HaltedStaysInertUntilReset := by
  intro l s hl hs hst
  have hstart : HaltedAsIn s s := ⟨hs, hst, rfl, rfl⟩
  obtain ⟨t, ht, hinv, hhalted, hnw, hinput⟩ := hstart.of_execList hl
  obtain ⟨hticks, hprev⟩ := Prod.ext_iff.1 hinput
  obtain ⟨hinert, hmode, hbit⟩ := hinv.halted_inert hhalted
  exact ⟨t, ht, hhalted, hinert, hmode, hbit, hnw, hticks, hprev⟩

end Sys2Proof.Machine
end

section
/-! PROOFS. The hazard of a publish between the accept and the clear of a take (spec
70_reset_and_hazards.md R140), and that the fault bits are sticky and read by no operation
(60_exceptions.md R116, 10_state.md R25). -/

namespace Sys2Proof.Machine

/-! ### A publish between the accept and the clear of a take (R140) -/

/-- The state after a whole publish of `v` on channel `c`, with nothing between its steps. -/
def State.published (c : Ch) (v : Word) (s : State) : State :=
  { s with pubv := s.pubv.set c v, mbVal := s.mbVal.set c v, mbNe := s.mbNe.set c true
           mbSeq := s.mbSeq.set c (s.mbSeq.get c + 1#8 + 1#8) }

/-- R70: the five steps P1 to P5, with nothing between them, complete the publish. -/
theorem execList_pubSteps_startPublish {c : Ch} {s : State} (v : Word) (hidle : s.pubp.get c = .idle) :
    execList (times 5 [.pubStep c]) (startPublish c v s) = .next (s.published c v) := by
  have hphase : s.pubp.set c .idle = s.pubp := by rw [← hidle, Chan_set_get]
  simp [times, execList, exec, execPubStep, pubStepOp, startPublish, State.published,
    setHighByte_setLowByte, hphase]

theorem execList_publishA {c : Ch} {s : State} (v : Word) (hidle : s.pubp.get c = .idle) :
    execList (publishA c v) s = .next (s.published c v) :=
  (execList_cons_next (exec_publish_of_idle v hidle) _).trans (execList_pubSteps_startPublish v hidle)

/-- The state after step T6 of a take (R71): what T2 and T3 read is returned and the flag is cleared. -/
def State.taken (c : Ch) (s : State) : State :=
  { s with mbNe := s.mbNe.set c false, chv := s.chv.set c (s.tkv.get c), fresh := s.fresh.set c true
           tkok := s.tkok.set c true, tkp := s.tkp.set c .idle }

theorem exec_takeStep_of_t6 {c : Ch} {s : State} (h : s.tkp.get c = .t6) :
    exec (.takeStep c) s = .next (s.taken c) := by
  simp [exec, execTakeStep, takeStepOp, h, State.taken]

/-- R72: a whole take from a complete but unannounced slot is rejected and returns nothing. -/
theorem exec_tryTake_of_empty {c : Ch} {s : State} (hidle : s.tkp.get c = .idle)
    (heven : (s.mbSeq.get c).toNat % 2 = 0) (hempty : s.mbNe.get c = false) :
    ∃ t : State, exec (.tryTake c) s = .next t ∧ t.tkok.get c = false ∧ t.chv.get c = s.chv.get c := by
  obtain ⟨_, _, _, _, hwhole⟩ := tryTakeIsAWholeTake
  obtain ⟨_, hrejected, _⟩ := hwhole c s hidle
  exact ⟨_, hrejected heven hempty, Chan_get_set .., rfl⟩

/-- Settles O17: T6 clears the flag that the publish has just set, so the next take rejects at T5. -/
theorem publishBetweenAcceptAndClearIsLost : Obligations.PublishBetweenAcceptAndClearIsLost := by
  intro c s v ht6 hidle heven
  have hlist : execList (publishA c v ++ [.takeStep c]) s = .next ((s.published c v).taken c) :=
    (execList_append_next (execList_publishA v hidle) _).trans
      (execList_cons_next (exec_takeStep_of_t6 (s := s.published c v) ht6) [])
  have hchv : ((s.published c v).taken c).chv.get c = s.tkv.get c := Chan_get_set ..
  have hne : ((s.published c v).taken c).mbNe.get c = false := Chan_get_set ..
  have hseq : (((s.published c v).taken c).mbSeq.get c).toNat % 2 = 0 := by
    simp only [State.taken, State.published, Chan_get_set, BitVec.toNat_add, BitVec.toNat_ofNat]
    omega
  obtain ⟨u, hu, hnothing, hsame⟩ := exec_tryTake_of_empty (Chan_get_set ..) hseq hne
  exact ⟨_, hlist, hchv, Chan_get_set .., Chan_get_set .., hne, u, hu, hnothing, hsame.trans hchv⟩

/-! ### Fault bits are read by no operation (R25, R116)

Run from other fault bits, an operation answers the same state but for those bits. The state updates that it
is made of keep the fault bits they find (`KeepsFaults`), all but those that come to `raiseFault`: SetW, the
hazard of TICK_OUT and the mismatch of BOOT set bits that do not depend on the ones they find
(`FaultBlind`). -/

/-- The state with any other contents of `FLT`. -/
def State.withFaults (f : BitVec 3) (s : State) : State := { s with flt := f }

/-- The update neither reads nor writes the fault bits. -/
def KeepsFaults (g : State → State) : Prop :=
  ∀ (f : BitVec 3) (s : State), g (s.withFaults f) = (g s).withFaults f

/-- The update reads no fault bit, and those it sets it sets whatever they were. -/
def FaultBlind (g : State → State) : Prop :=
  ∀ s : State, ∃ raised : BitVec 3, ∀ f : BitVec 3,
    g (s.withFaults f) = (g s).withFaults (f ||| raised)

/-- A test that reads no fault bit. -/
def TestsNoFault (p : State → Prop) : Prop := ∀ (f : BitVec 3) (s : State), p (s.withFaults f) ↔ p s

section
variable {g h : State → State} {p : State → Prop} [∀ s, Decidable (p s)]

theorem KeepsFaults.ite (hp : TestsNoFault p) (hg : KeepsFaults g) (hh : KeepsFaults h) :
    KeepsFaults fun s => if p s then g s else h s := by
  intro f s
  by_cases hs : p s
  · simpa only [hp f s, hs, if_true] using hg f s
  · simpa only [hp f s, hs, if_false] using hh f s

theorem FaultBlind.ite (hp : TestsNoFault p) (hg : FaultBlind g) (hh : FaultBlind h) :
    FaultBlind fun s => if p s then g s else h s := by
  intro s
  by_cases hs : p s
  · simpa only [hp _ s, hs, if_true] using hg s
  · simpa only [hp _ s, hs, if_false] using hh s

theorem KeepsFaults.comp (hg : KeepsFaults g) (hh : KeepsFaults h) : KeepsFaults fun s => g (h s) := by
  intro f s
  show g (h (s.withFaults f)) = _
  rw [hh, hg]

theorem KeepsFaults.faultBlind (hg : KeepsFaults g) : FaultBlind g :=
  fun s => ⟨0#3, fun f => by rw [BitVec.or_zero, hg]⟩

end

theorem keepsFaults_id : KeepsFaults fun s => s := fun _ _ => rfl

theorem raiseFault_faultBlind (n : FaultName) : FaultBlind (raiseFault n) :=
  fun _ => ⟨faultBit n, fun _ => rfl⟩

/-! ### Updates that keep the fault bits -/

theorem takeInterrupt_keepsFaults (src : Source) {body : State → State} (hbody : KeepsFaults body) :
    KeepsFaults (takeInterrupt src body) :=
  .ite (fun _ _ => Iff.rfl) (hbody.comp fun _ _ => by cases src <;> rfl) keepsFaults_id

theorem pubStepOp_keepsFaults (c : Ch) : KeepsFaults (pubStepOp c) := by
  intro f s
  dsimp only [pubStepOp, State.withFaults]
  cases s.pubp.get c <;> rfl

theorem takeStepOp_keepsFaults (c : Ch) : KeepsFaults (takeStepOp c) := by
  intro f s
  dsimp only [takeStepOp, State.withFaults]
  cases s.tkp.get c with
  | idle => dsimp only; split <;> rfl
  | t5 => dsimp only; split <;> rfl
  | _ => rfl

theorem takeUntilIdle_keepsFaults (n : Nat) (c : Ch) : KeepsFaults (takeUntilIdle n c) := by
  induction n with
  | zero => exact keepsFaults_id
  | succ n ih =>
    have hstep := takeStepOp_keepsFaults c
    exact .ite (fun f s => by rw [hstep f s]; rfl) hstep (ih.comp hstep)

theorem captureChannel_keepsFaults (t : Word) (c : Ch) (l : Bool) : KeepsFaults (captureChannel t c l) := by
  intro f s
  dsimp only [captureChannel, State.withFaults]
  cases s.prev.get c <;> cases l <;> dsimp only
  cases s.pulseOpen.get c <;> rfl

theorem captureBody_keepsFaults : KeepsFaults captureBody := by
  intro f s
  show captureChannel (now s) .ch1 (level s.pins .ch1)
    (captureChannel (now s) .ch0 (level s.pins .ch0) (s.withFaults f)) = _
  rw [captureChannel_keepsFaults, captureChannel_keepsFaults, captureBody]

theorem calStable_keepsFaults {leave : State → State} (hleave : KeepsFaults leave) :
    KeepsFaults (calStable leave) :=
  .ite (fun _ _ => Iff.rfl) (hleave.comp fun _ _ => rfl) fun _ _ => rfl

theorem calHigh_keepsFaults (w : Word) : KeepsFaults (calHigh w) :=
  .ite (fun _ _ => Iff.rfl) (fun _ _ => rfl) (calStable_keepsFaults fun _ _ => rfl)

theorem calLow_keepsFaults (w : Word) : KeepsFaults (calLow w) :=
  .ite (fun _ _ => Iff.rfl) (fun _ _ => rfl)
    (calStable_keepsFaults (.ite (fun _ _ => Iff.rfl) (fun _ _ => rfl) fun _ _ => rfl))

theorem calWaitStep_keepsFaults : KeepsFaults calWaitStep :=
  .ite (fun _ _ => Iff.rfl) (fun _ _ => rfl) fun _ _ => rfl

theorem calSampleOp_keepsFaults (c : Ch) (w : Word) : KeepsFaults (calSampleOp c w) := by
  intro f s
  have hactive : TestsNoFault fun s => c = calActive s.calState := fun _ _ => Iff.rfl
  dsimp only [calSampleOp, State.withFaults]
  cases calKind s.calState with
  | terminal => rfl
  | high => exact KeepsFaults.ite hactive (calHigh_keepsFaults w) keepsFaults_id f s
  | low => exact KeepsFaults.ite hactive (calLow_keepsFaults w) keepsFaults_id f s
  | wait => exact KeepsFaults.ite hactive calWaitStep_keepsFaults keepsFaults_id f s

theorem openStage_keepsFaults (st : Stage) : KeepsFaults (openStage st) := by
  intro f s; cases st <;> rfl

theorem closeStage_keepsFaults (st : Stage) : KeepsFaults (closeStage st) := by
  intro f s; cases st <;> rfl

theorem duration_withFaults (st : Stage) (f : BitVec 3) (s : State) :
    duration st (s.withFaults f) = duration st s := by
  cases st <;> rfl

theorem enterStage_keepsFaults (n : Nat) (st : Stage) : KeepsFaults (enterStage n st) := by
  induction n generalizing st with
  | zero => exact keepsFaults_id
  | succ n ih =>
    have hopen := openStage_keepsFaults st
    have hprogram : KeepsFaults fun s => program (duration st s) s := fun f s =>
      congrArg (fun d => program d (s.withFaults f)) (duration_withFaults st f s)
    have hdisarm : KeepsFaults fun s => { s with ocie1 := false } := fun _ _ => rfl
    exact .ite (fun f s => by rw [hopen f s, duration_withFaults])
      ((ih st.next).comp ((closeStage_keepsFaults st).comp (hdisarm.comp hopen))) (hprogram.comp hopen)

theorem expire_keepsFaults (st : Stage) : KeepsFaults (expire st) :=
  (enterStage_keepsFaults _ _).comp (closeStage_keepsFaults st)

/-! ### Updates that set fault bits -/

theorem setW_faultBlind (a b : Word) : FaultBlind (setW a b) :=
  .ite (fun _ _ => Iff.rfl) (raiseFault_faultBlind .widthRange)
    (KeepsFaults.faultBlind fun _ _ => rfl)

theorem mixOp_faultBlind (p q : Word) : FaultBlind (mixOp p q) :=
  fun s => setW_faultBlind (transformOf s p q).1 (transformOf s p q).2 { s with fresh := .both false }

/-! ### The operations -/

/-- An operation that answers `t` from `s` answers, from other fault bits, `t` but for them. -/
def FaultsUnread (act : State → Result) : Prop :=
  ∀ s t : State, act s = .next t → ∃ raised : BitVec 3, ∀ f : BitVec 3,
    act (s.withFaults f) = .next (t.withFaults (f ||| raised))

theorem FaultBlind.faultsUnread {g : State → State} (hg : FaultBlind g) :
    FaultsUnread fun s => .next (g s) := by
  rintro s _ ⟨⟩
  obtain ⟨raised, hraised⟩ := hg s
  exact ⟨raised, fun f => congrArg Host.Outcome.next (hraised f)⟩

theorem KeepsFaults.faultsUnread {g : State → State} (hg : KeepsFaults g) :
    FaultsUnread fun s => .next (g s) :=
  hg.faultBlind.faultsUnread

theorem exec_tickOut_faultsUnread : FaultsUnread (exec .tickOut) :=
  FaultBlind.faultsUnread (.ite (fun _ _ => Iff.rfl) (fun _ => ⟨faultBit .outputHazard, fun _ => rfl⟩)
    (KeepsFaults.faultBlind fun _ _ => rfl))

theorem exec_ovf1Svc_faultsUnread : FaultsUnread (exec .ovf1Svc) :=
  KeepsFaults.faultsUnread (takeInterrupt_keepsFaults _
    (.ite (fun _ _ => Iff.rfl) keepsFaults_id
      (.ite (fun _ _ => Iff.rfl) (fun _ _ => rfl) fun _ _ => rfl)))

theorem exec_cmp1Svc_faultsUnread : FaultsUnread (exec .cmp1Svc) :=
  KeepsFaults.faultsUnread (takeInterrupt_keepsFaults _ fun f s =>
    expire_keepsFaults s.stage f { s with ocie1 := false })

theorem exists_raised_of_keeps {act : State → Result} {s t : State}
    (h : ∀ f : BitVec 3, act (s.withFaults f) = .next (t.withFaults f)) :
    ∃ raised : BitVec 3, ∀ f : BitVec 3,
      act (s.withFaults f) = .next (t.withFaults (f ||| raised)) :=
  ⟨0#3, fun f => by rw [BitVec.or_zero, h]⟩

/-- R110: which way BOOT goes is decided by `ENG_ST`, the jumper and the store. -/
theorem exec_boot_faultsUnread (j : Bool) : FaultsUnread (exec (.boot j)) := by
  intro s t h
  by_cases hst : s.engSt = .preboot
  · cases j with
    | true =>
      cases (exec_boot_calibrating hst).symm.trans h
      exact exists_raised_of_keeps fun f => exec_boot_calibrating (s := s.withFaults f) hst
    | false =>
      by_cases hvalid : recordValid s.params.chkSeed s.nvm = true
      · cases (exec_boot_of_recordValid hst hvalid).symm.trans h
        exact exists_raised_of_keeps fun f =>
          exec_boot_of_recordValid (s := s.withFaults f) hst hvalid
      · cases (exec_boot_of_not_recordValid hst hvalid).symm.trans h
        exact ⟨faultBit .checksumMismatch, fun f =>
          exec_boot_of_not_recordValid (s := s.withFaults f) hst hvalid⟩
  · cases (exec_boot_of_ne_preboot j hst).symm.trans h
    exact exists_raised_of_keeps fun f => exec_boot_of_ne_preboot (s := s.withFaults f) j hst

/-- Only an offset of the record answers a next state (R37), and it is one whatever the fault bits. -/
theorem exec_nvmSet_faultsUnread (a b : Byte) : FaultsUnread (exec (.nvmSet a b)) := by
  intro s t h
  by_cases ha : a.toNat < 13
  · cases (exec_nvmSet_of_lt ha b s).symm.trans h
    exact exists_raised_of_keeps fun f => exec_nvmSet_of_lt ha b (s.withFaults f)
  · cases (exec_nvmSet_of_not_lt ha b s).symm.trans h

/-- R25: `FLT` is read by no operation; RESET alone writes it otherwise than by setting bits. -/
theorem exec_faultsUnread {i : Instr} (hreset : i ≠ .reset) : FaultsUnread (exec i) := by
  have hid := keepsFaults_id
  cases i with
  | reset => exact absurd rfl hreset
  | tickIn => exact KeepsFaults.faultsUnread fun _ _ => rfl
  | tickOut => exact exec_tickOut_faultsUnread
  | ovf0Svc => exact KeepsFaults.faultsUnread (takeInterrupt_keepsFaults _ fun _ _ => rfl)
  | capture => exact KeepsFaults.faultsUnread (takeInterrupt_keepsFaults _ captureBody_keepsFaults)
  | ovf1Svc => exact exec_ovf1Svc_faultsUnread
  | cmp1Svc => exact exec_cmp1Svc_faultsUnread
  | now => exact KeepsFaults.faultsUnread fun _ _ => rfl
  | irqMask => exact KeepsFaults.faultsUnread (.ite (fun _ _ => Iff.rfl) (fun _ _ => rfl) hid)
  | irqUnmask => exact KeepsFaults.faultsUnread (.ite (fun _ _ => Iff.rfl) (fun _ _ => rfl) hid)
  | mix =>
    exact FaultBlind.faultsUnread (.ite (fun _ _ => Iff.rfl)
      (fun s => mixOp_faultBlind s.chv.c0 s.chv.c1 s) hid.faultBlind)
  | outStart =>
    exact KeepsFaults.faultsUnread (.ite (fun _ _ => Iff.rfl)
      ((enterStage_keepsFaults _ _).comp fun _ _ => rfl) hid)
  | outPoll => exact KeepsFaults.faultsUnread fun _ _ => rfl
  | pin lv => exact KeepsFaults.faultsUnread fun _ _ => rfl
  | boot j => exact exec_boot_faultsUnread j
  | outCfg e => exact KeepsFaults.faultsUnread fun _ _ => rfl
  | pubStep c => exact (pubStepOp_keepsFaults c).faultsUnread
  | takeStep c => exact (takeStepOp_keepsFaults c).faultsUnread
  | tryTake c =>
    exact KeepsFaults.faultsUnread (.ite (fun _ _ => Iff.rfl) (takeUntilIdle_keepsFaults 6 c) hid)
  | calStep c =>
    exact KeepsFaults.faultsUnread (.ite (fun _ _ => Iff.rfl)
      (fun f s => calSampleOp_keepsFaults c (s.chv.get c) f { s with fresh := s.fresh.set c false }) hid)
  | nvmSet a b => exact exec_nvmSet_faultsUnread a b
  | publish c v => exact KeepsFaults.faultsUnread (.ite (fun _ _ => Iff.rfl) (fun _ _ => rfl) hid)
  | calSample c w =>
    exact KeepsFaults.faultsUnread (.ite (fun _ _ => Iff.rfl)
      ((calSampleOp_keepsFaults c w).comp fun _ _ => rfl) hid)
  | setWidths a b =>
    exact FaultBlind.faultsUnread (.ite (fun _ _ => Iff.rfl) (setW_faultBlind a b) hid.faultBlind)
  | xform p q =>
    exact FaultBlind.faultsUnread (.ite (fun _ _ => Iff.rfl)
      (fun s => mixOp_faultBlind p q (s.withWidths p q)) hid.faultBlind)

/-- Settles O58: run from the fault bits it has, the operation answers `t` itself, so the bits raised are
those that `t` has more. -/
theorem faultBitsAreStickyAndUnread : Obligations.FaultBitsAreStickyAndUnread := by
  intro i s t hreset h
  obtain ⟨raised, hraised⟩ := exec_faultsUnread hreset s t h
  have hsame : t = t.withFaults (s.flt ||| raised) := Host.Outcome.next.inj (h.symm.trans (hraised s.flt))
  exact ⟨raised, congrArg State.flt hsame, hraised⟩

end Sys2Proof.Machine
end
